-- ==== Sys2Proof/Word.lean ====
section
/-!
DEFINITION. The plainest data of the block: a byte, a control-state code, a line level.
Every value of the block is unsigned (00_scope R11); nothing here adds or compares.
-/

namespace Sys2Proof

/-- One byte of the frame (10_state R38). -/
abbrev Byte := BitVec 8

/-- The 4-bit control-state code held in `st` (10_state R31, 30_encoding R101). -/
abbrev StCode := BitVec 4

/-- A line level (00_scope R13). -/
inductive Level where
  | low
  | high
  deriving DecidableEq, Repr, Inhabited

end Sys2Proof
end

