-- ==== Sys2Proof/Config.lean ====
section
/-!
DEFINITION. What an implementation fixes (the parameters of 00_scope R6), what the outside supplies at
the input ports (30_encoding R107, R112, R113, R114), and the free values: opaque constants with no
body, so that nothing can be proved about what they answer.
-/

namespace Sys2Proof.Config

/-- The parameters of 00_scope R6, which the model takes as arguments. The source gives no value for any
of them (91_not_in_source N2, N4). Which sets are admitted is `Params.WellFormed`. -/
structure Params where
  /-- `P_CAP`: the per-bit sampling cap, and the timeout sentinel, in samples. -/
  pCap : Nat
  /-- `P_ACK_TIMEOUT`: how many samples each handshake wait may take before it fails. -/
  pAckTimeout : Nat
  /-- `P_T_START_LOW_US`: host start-signal low duration, in microseconds. -/
  pTStartLowUs : Nat
  /-- `P_T_RELEASE_US`: host release/settle duration, in microseconds. -/
  pTReleaseUs : Nat
  /-- `P_T_COOLDOWN_US`: cooldown between a failed attempt and the next, in microseconds. -/
  pTCooldownUs : Nat
  /-- `W_CNT`: width of `cnt` and of every trace entry, in bits. -/
  wCnt : Nat
  /-- `W_RETRY`: width of `max_retries`, `attempt` and `res_attempts`, in bits. -/
  wRetry : Nat
  /-- `W_PIN`: width of a pin identifier, in bits. -/
  wPin : Nat
  /-- `W_DLY`: width of the delay port's duration, in bits. -/
  wDly : Nat
  deriving DecidableEq, Repr

/-- DESIGN CHOICE (notes/assumptions/2.md), unsafe for a claim about `State.reset` alone: the parameter
set that `State.reset` carries. `P_CAP = 8` and `P_ACK_TIMEOUT = 4` are those of the spec's own vectors
(95_test_vectors section 0), each duration is the least that R6 admits. No statement rests on it. -/
def resetParams : Params where
  pCap := 8
  pAckTimeout := 4
  pTStartLowUs := 1000
  pTReleaseUs := 0
  pTCooldownUs := 0
  wCnt := 8
  wRetry := 8
  wPin := 8
  wDly := 16

/-- The values on the block's input ports at one rising edge of `clk`. -/
structure Inputs where
  /-- Port 0, `req`: request strobe (30_encoding R107). -/
  req : Bool
  /-- Port 1, `req_pin`: pin identifier (R107). -/
  reqPin : Nat
  /-- Port 2, `req_max_retries`: retry bound (R107). -/
  reqMaxRetries : Nat
  /-- Port 13, `gpio_level`: the LINE's answer to a `READ_LEVEL` of this step (R112). -/
  gpioLevel : Level
  /-- Port 14, `gpio_ready`: 1 when the driver backend is initialised (R112). -/
  gpioReady : Bool
  /-- Port 17, `dly_done`: the pending delay has elapsed (R113). -/
  dlyDone : Bool
  /-- Port 19, `rst`: synchronous reset (R114). -/
  rst : Bool
  deriving DecidableEq, Repr, Inhabited

/-- FREE VALUE (notes/assumptions/4.md, safe): what the LINE, the DELAY agent and the HOST present at the
draw of that number. The LINE's answer is a free draw (00_scope R9, 60_exceptions R295), the HOST may
present anything in any step (R296). Its `dlyDone` is only the DELAY agent's liberty to answer now; the
agent's law (R113, R294) is `delayAnswer`. -/
opaque freeInputs : Nat → Inputs

/-- FREE VALUE (notes/assumptions/9.md, safe): the contents of `trace` after a reset edge, which the spec
leaves unspecified (10_state R30, 93 I15). -/
opaque freeTrace : Nat → Vector Nat 80

/-- FREE VALUE (notes/assumptions/9.md, safe): the contents of `frame` after a reset edge, which the spec
leaves unspecified (10_state R30, 93 I15). -/
opaque freeFrame : Nat → Vector Byte 5

end Sys2Proof.Config
end

