-- ==== Sys2Proof/Syntax.lean ====
section
/-!
DEFINITION. The block's instructions: its sixteen control states, one constructor for each row of
spec/opcode_table.json (30_encoding R101). An operation has no register field and no immediate
(30_encoding R115), so no constructor has an argument.
-/

namespace Sys2Proof

/-- The sixteen control states, in the order of their codes 0x0 to 0xF (30_encoding R101). -/
inductive Instr where
  | idle          -- IDLE, R162
  | hsCfgOut      -- HS_CFG_OUT, R164
  | hsDriveLow    -- HS_DRIVE_LOW, R165
  | hsHoldLow     -- HS_HOLD_LOW, R166
  | hsDriveHigh   -- HS_DRIVE_HIGH, R167
  | hsHoldHigh    -- HS_HOLD_HIGH, R168
  | hsCfgIn       -- HS_CFG_IN, R169
  | hsPullup      -- HS_PULLUP, R170
  | acklSeek      -- ACKL_SEEK, R171
  | acklExit      -- ACKL_EXIT, R172
  | ackhSeek      -- ACKH_SEEK, R173
  | ackhExit      -- ACKH_EXIT, R174
  | sampleLow     -- SAMPLE_LOW, R175
  | sampleHigh    -- SAMPLE_HIGH, R176
  | decode        -- DECODE, R204
  | cooldown      -- COOLDOWN, R251
  deriving DecidableEq, Repr

/-- The six sampling states: each reads the line exactly once in every step, and no other state reads
it (41_sequencer R163). -/
def Instr.isSampling : Instr → Bool
  | .acklSeek | .acklExit | .ackhSeek | .ackhExit | .sampleLow | .sampleHigh => true
  | .idle | .hsCfgOut | .hsDriveLow | .hsHoldLow | .hsDriveHigh | .hsHoldHigh | .hsCfgIn | .hsPullup
  | .decode | .cooldown => false

/-- The hold states: the states that wait on the delay port (00_scope R14). -/
def Instr.isHold : Instr → Bool
  | .hsHoldLow | .hsHoldHigh | .cooldown => true
  | .idle | .hsCfgOut | .hsDriveLow | .hsDriveHigh | .hsCfgIn | .hsPullup | .acklSeek | .acklExit
  | .ackhSeek | .ackhExit | .sampleLow | .sampleHigh | .decode => false

end Sys2Proof
end

