-- ==== Sys2Proof/WellFormed.lean ====
section
/-!
DEFINITION. Which terms are admitted: parameter sets by the constraints of 00_scope R6, port values by
the widths of the ports. An instruction has no field (30_encoding R115), so none is ill-formed.
-/

namespace Sys2Proof

/-- Every control state is a legal operation: it has no operand to check (30_encoding R102, R115). -/
abbrev Instr.WellFormed (_ : Instr) : Prop := True

namespace Config

/-- `1 <= P_CAP <= 2^W_CNT - 1` (R6). -/
abbrev Params.CapFits (p : Params) : Prop := 1 ≤ p.pCap ∧ p.pCap < 2 ^ p.wCnt

/-- `1 <= P_ACK_TIMEOUT <= 2^W_CNT - 1` (R6). -/
abbrev Params.AckFits (p : Params) : Prop := 1 ≤ p.pAckTimeout ∧ p.pAckTimeout < 2 ^ p.wCnt

/-- `P_T_START_LOW_US >= 1000`, `<= 2^W_DLY - 1` (R6). -/
abbrev Params.StartLowFits (p : Params) : Prop := 1000 ≤ p.pTStartLowUs ∧ p.pTStartLowUs < 2 ^ p.wDly

/-- `P_T_RELEASE_US <= 2^W_DLY - 1` (R6). -/
abbrev Params.ReleaseFits (p : Params) : Prop := p.pTReleaseUs < 2 ^ p.wDly

/-- `P_T_COOLDOWN_US <= 2^W_DLY - 1` (R6). -/
abbrev Params.CooldownFits (p : Params) : Prop := p.pTCooldownUs < 2 ^ p.wDly

/-- `W_CNT`, `W_RETRY` and `W_PIN` are at least 1 (R6). -/
abbrev Params.WidthsPositive (p : Params) : Prop := 1 ≤ p.wCnt ∧ 1 ≤ p.wRetry ∧ 1 ≤ p.wPin

/-- The constraints of 00_scope R6 together. A set that breaks one is refused (R7). -/
abbrev Params.WellFormed (p : Params) : Prop :=
  p.CapFits ∧ p.AckFits ∧ p.StartLowFits ∧ p.ReleaseFits ∧ p.CooldownFits ∧ p.WidthsPositive

/-- The request port's operands have the widths of the port (30_encoding R107). -/
abbrev Inputs.WellFormed (p : Params) (x : Inputs) : Prop :=
  x.reqPin < 2 ^ p.wPin ∧ x.reqMaxRetries < 2 ^ p.wRetry

end Config

end Sys2Proof
end

