-- ==== Sys2Proof/Decode.lean ====
section
/-!
DEFINITION. Decoding a control-state code into an instruction, and the encoder beside it, both written
from the table of 30_encoding R101. `st` is the whole of an operation (R115) and all sixteen codes are
assigned (R102); in a byte a code stands in bits 3..0 with bits 7..4 zero (notes/assumptions/17.md).
-/

namespace Sys2Proof

/-- Dispatch on all four bits of the code, bit 3 first, with no wildcard arm (30_encoding R101, R102). -/
def decodeBits : Bool → Bool → Bool → Bool → Instr
  | false, false, false, false => .idle
  | false, false, false, true  => .hsCfgOut
  | false, false, true,  false => .hsDriveLow
  | false, false, true,  true  => .hsHoldLow
  | false, true,  false, false => .hsDriveHigh
  | false, true,  false, true  => .hsHoldHigh
  | false, true,  true,  false => .hsCfgIn
  | false, true,  true,  true  => .hsPullup
  | true,  false, false, false => .acklSeek
  | true,  false, false, true  => .acklExit
  | true,  false, true,  false => .ackhSeek
  | true,  false, true,  true  => .ackhExit
  | true,  true,  false, false => .sampleLow
  | true,  true,  false, true  => .sampleHigh
  | true,  true,  true,  false => .decode
  | true,  true,  true,  true  => .cooldown

/-- The operation that a value of `st` names (30_encoding R101, R115). -/
def decodeCode (c : StCode) : Instr :=
  decodeBits (c.getLsbD 3) (c.getLsbD 2) (c.getLsbD 1) (c.getLsbD 0)

/-- Why bytes name no operation. -/
inductive Reject where
  /-- There is no byte to read. -/
  | noByte
  /-- Bits 7..4 are not all zero: a state code has four bits (30_encoding R100). -/
  | upperBitsSet
  deriving DecidableEq, Repr

/-- Read one operation from the front of a list of bytes, or say why not. Total on any bytes. -/
def decodeBytes : List Byte → Except Reject (Instr × List Byte)
  | [] => .error .noByte
  | b :: rest =>
    if b.toNat < 16 then .ok (decodeCode (BitVec.ofNat 4 b.toNat), rest) else .error .upperBitsSet

/-- The 4-bit code of a control state (30_encoding R101). -/
def encode : Instr → StCode
  | .idle        => 0x0#4
  | .hsCfgOut    => 0x1#4
  | .hsDriveLow  => 0x2#4
  | .hsHoldLow   => 0x3#4
  | .hsDriveHigh => 0x4#4
  | .hsHoldHigh  => 0x5#4
  | .hsCfgIn     => 0x6#4
  | .hsPullup    => 0x7#4
  | .acklSeek    => 0x8#4
  | .acklExit    => 0x9#4
  | .ackhSeek    => 0xA#4
  | .ackhExit    => 0xB#4
  | .sampleLow   => 0xC#4
  | .sampleHigh  => 0xD#4
  | .decode      => 0xE#4
  | .cooldown    => 0xF#4

/-- The byte of a control state. -/
def encodeBytes (i : Instr) : List Byte := [(encode i).setWidth 8]

/-- The `n` bytes of a number, the least significant first. -/
def littleEndianBytes : Nat → Nat → List Byte
  | 0, _ => []
  | n + 1, w => BitVec.ofNat 8 w :: littleEndianBytes n (w / 256)

/-- The instruction the decoder reads from a word numbered as spec/opcode_table.json numbers it: 4 bits,
one byte. Nothing may follow the instruction's byte but zeros. -/
def decodeTableWord (nbits w : Nat) : Option Instr :=
  match decodeBytes (littleEndianBytes ((nbits + 7) / 8) w) with
  | .ok (i, rest) => if rest.all (fun b => b == 0#8) then some i else none
  | .error _ => none

end Sys2Proof
end

