-- ==== Sys2Proof/Machine/State.lean ====
section
/-!
DEFINITION. The state of the block (10_state R30 to R44) as plain data, the values on its ports, the
reasons a step can stop, and the state right after reset (70_reset_and_hazards R310).
-/

namespace Sys2Proof.Machine

open Sys2Proof.Config

/-- The result kinds of 30_encoding R103. The codes 101, 110 and 111 name no kind, so no value of this
type has one of them (R105 allows it). -/
inductive ResultKind where
  | ok
  | timeout
  | checksumMismatch
  | driverInitFailure
  /-- Code 100: never produced by the block, kept for a front end (60_exceptions R274). -/
  | invalidArgument
  deriving DecidableEq, Repr

/-- The timeout diagnostics of 30_encoding R104. -/
inductive TimeoutDiag where
  | none
  | noAckLow
  | noAckHigh
  | sampleStall
  deriving DecidableEq, Repr

/-- The GPIO primitives of 30_encoding R112. The reserved code 111 names none (R105). -/
inductive GpioOp where
  | nop
  | cfgOutput
  | cfgInput
  | setPullUp
  | writeLow
  | writeHigh
  | readLevel
  deriving DecidableEq, Repr

/-- The values on the block's event outputs in one step. -/
structure Outputs where
  /-- Port 11, `gpio_op` (30_encoding R112). -/
  gpioOp : GpioOp
  /-- Ports 15 and 16: `some us` is `dly_req = 1` with `dly_us = us`; `none` is `dly_req = 0`, when
  `dly_us` has no meaning (30_encoding R113, notes/assumptions/10.md). -/
  dlyReq : Option Nat
  deriving DecidableEq, Repr

/-- The outputs of a step that drives none: `gpio_op = NOP`, `dly_req = 0` (41_sequencer, opening). -/
abbrev Outputs.quiet : Outputs := { gpioOp := .nop, dlyReq := none }

/-- No fault: the spec treats no behaviour as one (93_implementation_defined, after I26). Every error the
block can raise is an outcome its rules define, and is a NEXT state. -/
inductive Fault where
  deriving DecidableEq, Repr

/-- Why a step has no meaning. -/
inductive Refusal where
  /-- Raised by an arm of `exec` whose instruction has no meaning yet; no arm of this model. Safe. -/
  | notModelled (mnemonic : String)
  /-- Raised by `step` when the parameter set breaks a constraint of 00_scope R6: "It has no run" (R7,
  93 I26). Safe: it errs toward unprovable. -/
  | invalidParameters
  /-- Raised by a recording step of SAMPLE_LOW or SAMPLE_HIGH when `bi` is 40 to 63, so that there is no
  trace entry to write: values that never occur (10_state R36), for which the spec has the model refuse
  (93 I14). Safe: no reachable state raises it. -/
  | traceIndexUnreachable
  deriving DecidableEq, Repr

/-- The state. The fields down to `resAttempts` are the registers of 10_state R30. The last four are the
model's own: the parameters, the ports' values and the number of the next free draw. A register whose
width is a parameter is a natural number that every write narrows to the width (notes/assumptions/3.md). -/
structure State where
  /-- `st`, 4 bits, the control state, the block's pc (R31). -/
  st : StCode
  /-- `pin`, W_PIN bits (R32). -/
  pin : Nat
  /-- `max_retries`, W_RETRY bits (R33). -/
  maxRetries : Nat
  /-- `attempt`, W_RETRY bits (R34). -/
  attempt : Nat
  /-- `cnt`, W_CNT bits (R35). -/
  cnt : Nat
  /-- `bi`, 6 bits (R36). -/
  bi : BitVec 6
  /-- `trace[0..79]`, W_CNT bits each (R37). -/
  trace : Vector Nat 80
  /-- `frame[0..4]` (R38). -/
  frame : Vector Byte 5
  /-- `dly_pend` (R39). -/
  dlyPend : Bool
  /-- `res_valid` (R40). -/
  resValid : Bool
  /-- `res_status`, 3 bits (R41). -/
  resStatus : ResultKind
  /-- `res_tdiag`, 2 bits (R42). -/
  resTdiag : TimeoutDiag
  /-- `res_frame`, 40 bits (R43). -/
  resFrame : BitVec 40
  /-- `res_attempts`, W_RETRY bits (R44). -/
  resAttempts : Nat
  /-- The parameters (00_scope R6): configuration, which no step changes (notes/assumptions/1.md). -/
  params : Params
  /-- The values on the input ports at the coming edge (notes/assumptions/4.md). -/
  inp : Inputs
  /-- The values driven on the event outputs in the step just taken (notes/assumptions/10.md). -/
  out : Outputs
  /-- The number of the next free draw (notes/assumptions/4.md). -/
  tick : Nat
  deriving DecidableEq, Repr

/-- The state right after reset under parameters `p`: the reset column of 10_state R30 (70_reset R310),
`dly_done = 0` (R313), and NOP with no delay request driven in the reset step (R310). The spec leaves
`trace` and `frame` unspecified: zeros, DESIGN CHOICE (notes/assumptions/8.md). The other inputs are at 0,
DESIGN CHOICE (notes/assumptions/5.md). -/
def State.resetWith (p : Params) : State where
  st := 0x0#4
  pin := 0
  maxRetries := 0
  attempt := 0
  cnt := 0
  bi := 0#6
  trace := Vector.replicate 80 0
  frame := Vector.replicate 5 0#8
  dlyPend := false
  resValid := false
  resStatus := .ok
  resTdiag := .none
  resFrame := 0#40
  resAttempts := 0
  params := p
  inp :=
    { req := false, reqPin := 0, reqMaxRetries := 0, gpioLevel := .low, gpioReady := false,
      dlyDone := false, rst := false }
  out := .quiet
  tick := 0

/-- The state right after reset, under the parameter set that notes/assumptions/2.md names. -/
def State.reset : State := State.resetWith Config.resetParams

end Sys2Proof.Machine
end

