-- ==== Sys2Proof/Machine/Ops.lean ====
section
/-!
DEFINITION. The named operations on the registers and ports: driving the outputs, moving to a control
state, publishing a result, failing an attempt (the block's exception entry, 60_exceptions R280) and the
return from it, and the wait on the delay port. Every one takes the state from before the step, whose
reads see only that state (00_scope R12).
-/

namespace Sys2Proof.Machine

/-- The value a register of `w` bits holds when `n` is written to it: an N-bit operand's sum is exact
(00_scope R11), and the register keeps its low bits. DEDUCED (notes/assumptions/3.md). -/
def narrow (w n : Nat) : Nat := n % 2 ^ w

/-- `st <- i` (00_scope R12). -/
def State.goto (s : State) (i : Instr) : State := { s with st := encode i }

/-- Drive the event outputs of this step: one GPIO primitive, at most one delay request (R10, R12). -/
def State.drive (s : State) (op : GpioOp) (dly : Option Nat) : State :=
  { s with out := { gpioOp := op, dlyReq := dly } }

/-- `cnt <- n` (10_state R35). -/
def State.setCnt (s : State) (n : Nat) : State := { s with cnt := narrow s.params.wCnt n }

/-- `attempt <- n` (10_state R34). -/
def State.setAttempt (s : State) (n : Nat) : State :=
  { s with attempt := narrow s.params.wRetry n }

/-- Write the five result registers in one step (20_memory R83). -/
def State.publish (s : State) (valid : Bool) (kind : ResultKind) (diag : TimeoutDiag)
    (fr : BitVec 40) (attempts : Nat) : State :=
  { s with
    resValid := valid, resStatus := kind, resTdiag := diag, resFrame := fr, resAttempts := attempts }

/-- `Complete(kind, diag, fr)`: publish a result and end the read (44_retry R252). -/
def State.complete (s : State) (kind : ResultKind) (diag : TimeoutDiag) (fr : BitVec 40) : State :=
  (s.publish true kind diag fr s.attempt).goto .idle

/-- `Fail(kind, diag)`: end the attempt (44_retry R250). This is the block's exception entry: it goes to
COOLDOWN when a retry follows, and otherwise reports this attempt's error (60_exceptions R280). -/
def State.fail (s : State) (kind : ResultKind) (diag : TimeoutDiag) : State :=
  if s.attempt < s.maxRetries then s.goto .cooldown else s.complete kind diag 0#40

/-- The register write at the return from a retried failure: `attempt <- attempt + 1` (44_retry R251,
60_exceptions R282). The transfer to HS_CFG_OUT is the `next` of COOLDOWN's `Hold`. -/
def State.nextAttempt (s : State) : State := s.setAttempt (s.attempt + 1)

/-- `Hold(us, next, act)`: one step of a wait on the delay port (41_sequencer R161). -/
def State.hold (s : State) (us : Nat) (next : Instr) (act : State → State) : State :=
  if s.dlyPend then
    if s.inp.dlyDone then (act { s.drive .nop none with dlyPend := false }).goto next
    else s.drive .nop none
  else { s.drive .nop (some us) with dlyPend := true }

end Sys2Proof.Machine
end

