-- ==== Sys2Proof/Machine/Retry.lean ====
section
/-!
DEFINITION. The Retry Controller's state COOLDOWN (44_retry R251). Its routines `Fail` and `Complete`
(R250, R252) are `State.fail` and `State.complete` of Ops.
-/

namespace Sys2Proof.Machine

/-- `COOLDOWN`: the delay, then the increment, then the whole chain again (44_retry R251). -/
def execCooldown (s : State) : Host.Outcome State Fault Refusal :=
  .next (s.hold s.params.pTCooldownUs .hsCfgOut State.nextAttempt)

end Sys2Proof.Machine
end

