-- ==== Sys2Proof/Machine/Operands.lean ====
section
/-!
DEFINITION. Everything an operation can take as an operand (30_encoding R115): the request port, the
line, and the index of a trace entry. There are no register fields and no immediates; the constants are
the parameters.
-/

namespace Sys2Proof.Machine

/-- `req_pin`, on W_PIN wires (30_encoding R107). -/
def State.reqPin (s : State) : Nat := narrow s.params.wPin s.inp.reqPin

/-- `req_max_retries`, on W_RETRY wires (30_encoding R107). -/
def State.reqMaxRetries (s : State) : Nat := narrow s.params.wRetry s.inp.reqMaxRetries

/-- The level that `GpioRead()` returns: the LINE's answer of this step (20_memory R72). The primitive
itself is driven on `gpio_op` by the step that reads. -/
def State.lineLevel (s : State) : Level := s.inp.gpioLevel

/-- The trace index of the low phase of bit `bi`: `2*bi` (10_state R36). -/
def State.lowIndex (s : State) : Nat := 2 * s.bi.toNat

/-- The trace index of the high phase of bit `bi`: `2*bi + 1` (10_state R36). -/
def State.highIndex (s : State) : Nat := 2 * s.bi.toNat + 1

end Sys2Proof.Machine
end

