-- ==== Sys2Proof/Machine/Sampler.lean ====
section
/-!
DEFINITION. The Pulse Timing Sampler: the three procedures of 40_sampler (R141 to R143), each one step
that reads the line once, and the six sampling states that run them (41_sequencer R171 to R176).
-/

namespace Sys2Proof.Machine

/-- `SeekStep(target, T, exit_state, diag)` with `T = P_ACK_TIMEOUT` (40_sampler R141). -/
def State.seekStep (s : State) (target : Level) (exitState : Instr) (diag : TimeoutDiag) : State :=
  let s1 := s.drive .readLevel none
  if s.lineLevel = target then s1.goto exitState
  else if s.cnt + 1 = s.params.pAckTimeout then (s1.setCnt (s.cnt + 1)).fail .timeout diag
  else s1.setCnt (s.cnt + 1)

/-- `ExitStep(target, next_state, act)` (40_sampler R142). -/
def State.exitStep (s : State) (target : Level) (next : Instr) (act : State → State) : State :=
  let s1 := s.drive .readLevel none
  if s.lineLevel = target then s1 else (act (s1.setCnt 0)).goto next

/-- The end of a measurement: `trace[j] <- v; cnt <- 0; on_done` (40_sampler R143). Where there is no
entry `j`, which no reachable state asks for, the model refuses (93 I14). -/
def State.record (s : State) (j v : Nat) (onDone : State → State) :
    Host.Outcome State Fault Refusal :=
  if h : j < 80 then
    .next (onDone { s.setCnt 0 with trace := s.trace.set j (narrow s.params.wCnt v) h })
  else .refused .traceIndexUnreachable

/-- `CountStep(level, j, on_done)` (40_sampler R143). -/
def State.countStep (s : State) (level : Level) (j : Nat) (onDone : State → State) :
    Host.Outcome State Fault Refusal :=
  let s1 := s.drive .readLevel none
  if s.lineLevel = level then
    if s.cnt + 1 = s.params.pCap then s1.record j s.params.pCap onDone
    else .next (s1.setCnt (s.cnt + 1))
  else s1.record j s.cnt onDone

/-- The `on_done` of SAMPLE_HIGH: the next bit, or DECODE after bit 39, where `bi` stays 39
(41_sequencer R176). -/
def State.nextBit (s : State) : State :=
  if s.bi = 39#6 then s.goto .decode else { s with bi := s.bi + 1#6 }.goto .sampleLow

/-- `ACKL_SEEK` (41_sequencer R171). -/
def execAcklSeek (s : State) : Host.Outcome State Fault Refusal :=
  .next (s.seekStep .low .acklExit .noAckLow)

/-- `ACKL_EXIT` (41_sequencer R172). -/
def execAcklExit (s : State) : Host.Outcome State Fault Refusal :=
  .next (s.exitStep .low .ackhSeek id)

/-- `ACKH_SEEK` (41_sequencer R173). -/
def execAckhSeek (s : State) : Host.Outcome State Fault Refusal :=
  .next (s.seekStep .high .ackhExit .noAckHigh)

/-- `ACKH_EXIT`, which arms `bi` (41_sequencer R174). -/
def execAckhExit (s : State) : Host.Outcome State Fault Refusal :=
  .next (s.exitStep .high .sampleLow fun t => { t with bi := 0#6 })

/-- `SAMPLE_LOW` (41_sequencer R175). -/
def execSampleLow (s : State) : Host.Outcome State Fault Refusal :=
  s.countStep .low s.lowIndex fun t => t.goto .sampleHigh

/-- `SAMPLE_HIGH` (41_sequencer R176). -/
def execSampleHigh (s : State) : Host.Outcome State Fault Refusal :=
  s.countStep .high s.highIndex State.nextBit

end Sys2Proof.Machine
end

