-- ==== Sys2Proof/Machine/Sequencer.lean ====
section
/-!
DEFINITION. The Protocol Sequencer's states before the first sample: IDLE and the host start signal
(41_sequencer R162, R164 to R170).
-/

namespace Sys2Proof.Machine

/-- The request latches: `pin <- req_pin; max_retries <- req_max_retries; attempt <- 0`
(41_sequencer R162). -/
def State.latchRequest (s : State) : State :=
  { s with pin := s.reqPin, maxRetries := s.reqMaxRetries, attempt := 0 }

/-- `IDLE` (41_sequencer R162). The result registers of the DRIVER_INIT_FAILURE branch are written here
and not through `Complete`, whose `attempt` would be the one from before the step (90_conflicts C5). -/
def execIdle (s : State) : Host.Outcome State Fault Refusal :=
  let s1 := s.drive .nop none
  if s.inp.req then
    if s.inp.gpioReady then .next ((s1.latchRequest.publish false .ok .none 0#40 0).goto .hsCfgOut)
    else .next (s1.latchRequest.publish true .driverInitFailure .none 0#40 0)
  else .next s1

/-- `HS_CFG_OUT` (41_sequencer R164). -/
def execHsCfgOut (s : State) : Host.Outcome State Fault Refusal :=
  .next ((s.drive .cfgOutput none).goto .hsDriveLow)

/-- `HS_DRIVE_LOW` (41_sequencer R165). -/
def execHsDriveLow (s : State) : Host.Outcome State Fault Refusal :=
  .next ((s.drive .writeLow none).goto .hsHoldLow)

/-- `HS_HOLD_LOW` (41_sequencer R166). -/
def execHsHoldLow (s : State) : Host.Outcome State Fault Refusal :=
  .next (s.hold s.params.pTStartLowUs .hsDriveHigh id)

/-- `HS_DRIVE_HIGH` (41_sequencer R167). -/
def execHsDriveHigh (s : State) : Host.Outcome State Fault Refusal :=
  .next ((s.drive .writeHigh none).goto .hsHoldHigh)

/-- `HS_HOLD_HIGH` (41_sequencer R168). -/
def execHsHoldHigh (s : State) : Host.Outcome State Fault Refusal :=
  .next (s.hold s.params.pTReleaseUs .hsCfgIn id)

/-- `HS_CFG_IN` (41_sequencer R169). -/
def execHsCfgIn (s : State) : Host.Outcome State Fault Refusal :=
  .next ((s.drive .cfgInput none).goto .hsPullup)

/-- `HS_PULLUP`, which arms `cnt` (41_sequencer R170). -/
def execHsPullup (s : State) : Host.Outcome State Fault Refusal :=
  .next (((s.drive .setPullUp none).setCnt 0).goto .acklSeek)

end Sys2Proof.Machine
end

