-- ==== Sys2Proof/Machine/Slicer.lean ====
section
/-!
DEFINITION. The Bit Decoder & Checksum Validator: the pure functions `Slice` and `Checksum` and the state
DECODE (42_decoder R200 to R205).
-/

namespace Sys2Proof.Machine

/-- Lane `k` of `Slice`: bit `k` is 1 when the high entry is strictly greater than the low entry
(42_decoder R201, R208). -/
def sliceBit (tr : Vector Nat 80) (k : Fin 40) : Bool :=
  decide (tr[2 * k.val] < tr[2 * k.val + 1])

/-- Eight bits as a byte, the first one bit 7 (42_decoder R202). -/
def packByte (b0 b1 b2 b3 b4 b5 b6 b7 : Bool) : Byte :=
  BitVec.ofBool b0 ++ BitVec.ofBool b1 ++ BitVec.ofBool b2 ++ BitVec.ofBool b3 ++
    BitVec.ofBool b4 ++ BitVec.ofBool b5 ++ BitVec.ofBool b6 ++ BitVec.ofBool b7

/-- Byte `k` of `Slice`, from bits `8k` to `8k + 7` (42_decoder R202). -/
def sliceByte (tr : Vector Nat 80) (k : Fin 5) : Byte :=
  packByte (sliceBit tr ⟨8 * k.val, by omega⟩) (sliceBit tr ⟨8 * k.val + 1, by omega⟩)
    (sliceBit tr ⟨8 * k.val + 2, by omega⟩) (sliceBit tr ⟨8 * k.val + 3, by omega⟩)
    (sliceBit tr ⟨8 * k.val + 4, by omega⟩) (sliceBit tr ⟨8 * k.val + 5, by omega⟩)
    (sliceBit tr ⟨8 * k.val + 6, by omega⟩) (sliceBit tr ⟨8 * k.val + 7, by omega⟩)

/-- `Slice(trace)`: the five bytes (42_decoder R201, R202). -/
def sliceFrame (tr : Vector Nat 80) : Vector Byte 5 :=
  #v[sliceByte tr 0, sliceByte tr 1, sliceByte tr 2, sliceByte tr 3, sliceByte tr 4]

/-- `Checksum(f) = (f[0] + f[1] + f[2] + f[3]) mod 256`, the sum exact (42_decoder R203). -/
def checksum (f : Vector Byte 5) : Byte :=
  BitVec.ofNat 8 ((f[0].toNat + f[1].toNat + f[2].toNat + f[3].toNat) % 256)

/-- `{f[0], f[1], f[2], f[3], f[4]}` (20_memory R77). -/
def frameWord (f : Vector Byte 5) : BitVec 40 := f[0] ++ f[1] ++ f[2] ++ f[3] ++ f[4]

/-- `exists j in 0..79 : trace[j] = P_CAP` (42_decoder R204). -/
def State.hasSentinel (s : State) : Bool := s.trace.toList.any fun v => v == s.params.pCap

/-- `DECODE` (42_decoder R204): the cap check first (R205), then the slice, then the checksum. -/
def execDecode (s : State) : Host.Outcome State Fault Refusal :=
  let s1 := s.drive .nop none
  if s.hasSentinel then .next (s1.fail .timeout .sampleStall)
  else
    let f := sliceFrame s.trace
    let s2 := { s1 with frame := f }
    if checksum f = f[4] then .next (s2.complete .ok .none (frameWord f))
    else .next (s2.fail .checksumMismatch .none)

end Sys2Proof.Machine
end

