-- ==== Sys2Proof/Machine/Dispatch.lean ====
section
/-!
DEFINITION. What each control state's step does: one call of its meaning an arm, in the table's order.
-/

namespace Sys2Proof.Machine

open Sys2Proof

def exec (i : Instr) (s : State) : Host.Outcome State Fault Refusal :=
  match i with
  | .idle => Sys2Proof.Machine.execIdle s
  | .hsCfgOut => Sys2Proof.Machine.execHsCfgOut s
  | .hsDriveLow => Sys2Proof.Machine.execHsDriveLow s
  | .hsHoldLow => Sys2Proof.Machine.execHsHoldLow s
  | .hsDriveHigh => Sys2Proof.Machine.execHsDriveHigh s
  | .hsHoldHigh => Sys2Proof.Machine.execHsHoldHigh s
  | .hsCfgIn => Sys2Proof.Machine.execHsCfgIn s
  | .hsPullup => Sys2Proof.Machine.execHsPullup s
  | .acklSeek => Sys2Proof.Machine.execAcklSeek s
  | .acklExit => Sys2Proof.Machine.execAcklExit s
  | .ackhSeek => Sys2Proof.Machine.execAckhSeek s
  | .ackhExit => Sys2Proof.Machine.execAckhExit s
  | .sampleLow => Sys2Proof.Machine.execSampleLow s
  | .sampleHigh => Sys2Proof.Machine.execSampleHigh s
  | .decode => Sys2Proof.Machine.execDecode s
  | .cooldown => Sys2Proof.Machine.execCooldown s

end Sys2Proof.Machine
end

