-- ==== Sys2Proof/Machine/Flags.lean ====
section
/-!
DEFINITION. The block's flags. It has no ALU flags (10_state R48): `res_valid` and `dly_pend` are
registers, `busy` is derived, and `dly_done` is the DELAY agent's.
-/

namespace Sys2Proof.Machine

/-- `busy = (st != IDLE)` (10_state R45). -/
def State.busy (s : State) : Bool := s.st != 0x0#4

/-- `dly_done` at the next edge, by the DELAY agent's law (30_encoding R113, 60_exceptions R294): low
after the block consumed it, which is when `dly_pend` went from 1 to 0 (41_sequencer R161); else it stays
1 once raised; else it may rise, by the free draw, only while a request is pending. DEDUCED
(notes/assumptions/6.md). -/
def delayAnswer (pendBefore pendAfter done draw : Bool) : Bool :=
  if pendBefore && !pendAfter then false else done || (pendAfter && draw)

end Sys2Proof.Machine
end

