-- ==== Sys2Proof/Machine/Clock.lean ====
section
/-!
DEFINITION. One rising edge of `clk`: reading the operation from `st` (30_encoding R115), running it or
taking the reset (R114), and the inputs that the other agents present at the next edge (00_scope R9).
-/

namespace Sys2Proof.Machine

open Sys2Proof

/-- The operation the next step performs: what `st` names (10_state R31). The block fetches nothing else
(20_memory R87). -/
def State.fetch (s : State) : Instr := decodeCode s.st

/-- The inputs at the edge after a step from `s` to `t`: free draws, on the widths of the ports, with
`dly_done` by the DELAY agent's law (notes/assumptions/4.md and 6.md). -/
def nextInputs (s t : State) : Config.Inputs :=
  let d := Config.freeInputs s.tick
  { d with
    reqPin := narrow s.params.wPin d.reqPin
    reqMaxRetries := narrow s.params.wRetry d.reqMaxRetries
    dlyDone := delayAnswer s.dlyPend t.dlyPend s.inp.dlyDone d.dlyDone }

/-- The state after the block stepped from `s` to `t`: the other agents have moved. -/
def advance (s t : State) : State := { t with inp := nextInputs s t, tick := s.tick + 1 }

/-- An edge with `rst = 1`: every register takes its reset value (30_encoding R114, 70_reset R310), and
`trace` and `frame` take free values (93 I15). The DELAY agent is reset with the block, so `dly_done = 0`
(70_reset R313, notes/assumptions/7.md). The parameters stay (00_scope R6). -/
def resetEdge (s : State) : State :=
  { State.resetWith s.params with
    trace := (Config.freeTrace s.tick).map (narrow s.params.wCnt)
    frame := Config.freeFrame s.tick
    inp := { nextInputs s s with dlyDone := false }
    tick := s.tick + 1 }

/-- What an outcome of `exec` becomes when the other agents have moved. -/
def afterEdge (s : State) : Host.Outcome State Fault Refusal → Host.Outcome State Fault Refusal
  | .next t => .next (advance s t)
  | .fault r => .fault r
  | .refused r => .refused r

/-- One edge. A parameter set outside 00_scope R6 has no run (R7). -/
def clockEdge (s : State) : Host.Outcome State Fault Refusal :=
  if s.params.WellFormed then
    if s.inp.rst then .next (resetEdge s) else afterEdge s (exec s.fetch s)
  else .refused .invalidParameters

end Sys2Proof.Machine
end

