-- ==== Sys2Proof/Machine/Step.lean ====
section
/-!
DEFINITION. One step of the machine, and placing an instruction where the next step reads it.
-/

namespace Sys2Proof.Machine

/-- One rising edge of `clk` (30_encoding R114). -/
def step (s : State) : Host.Outcome State Fault Refusal := clockEdge s

/-- Place an instruction where `step` reads its next one: in `st` (30_encoding R115). `st` holds the four
bits that the table gives every row; nothing else is set (notes/assumptions/13.md). -/
def State.withFetchWord (s : State) (nbits w : Nat) : State :=
  { s with st := BitVec.ofNat 4 (w % 2 ^ nbits) }

end Sys2Proof.Machine
end

