-- ==== Sys2Proof/Machine/Ports.lean ====
section
/-!
DEFINITION. The codes of the ports' fields and the ports as functions of the state (30_encoding R103,
R104, R107, R108, R112, R113).
-/

namespace Sys2Proof.Machine

/-- The 3-bit code of `res_status` (30_encoding R103). -/
def ResultKind.code : ResultKind → BitVec 3
  | .ok => 0b000#3
  | .timeout => 0b001#3
  | .checksumMismatch => 0b010#3
  | .driverInitFailure => 0b011#3
  | .invalidArgument => 0b100#3

/-- The 2-bit code of `res_tdiag` (30_encoding R104). -/
def TimeoutDiag.code : TimeoutDiag → BitVec 2
  | .none => 0b00#2
  | .noAckLow => 0b01#2
  | .noAckHigh => 0b10#2
  | .sampleStall => 0b11#2

/-- The 3-bit code of `gpio_op` (30_encoding R112). -/
def GpioOp.code : GpioOp → BitVec 3
  | .nop => 0b000#3
  | .cfgOutput => 0b001#3
  | .cfgInput => 0b010#3
  | .setPullUp => 0b011#3
  | .writeLow => 0b100#3
  | .writeHigh => 0b101#3
  | .readLevel => 0b110#3

/-- A level as a bit: `LOW = 0`, `HIGH = 1` (00_scope R13). -/
def levelBit : Level → BitVec 1
  | .low => 0#1
  | .high => 1#1

/-- A flag as a one-bit port. -/
def flagBit (b : Bool) : BitVec 1 := BitVec.ofBool b

/-- `res_hum_raw = res_frame[39:24]` (10_state R46). -/
def State.resHumRaw (s : State) : BitVec 16 := s.resFrame.extractLsb' 24 16

/-- `res_temp_raw = res_frame[23:8]` (10_state R46). -/
def State.resTempRaw (s : State) : BitVec 16 := s.resFrame.extractLsb' 8 16

/-- `gpio_pin`, always equal to register `pin` (30_encoding R112). -/
def State.gpioPin (s : State) : Nat := s.pin

/-- The result port, what the host polls (30_encoding R108, 60_exceptions R296). -/
structure ResultPort where
  /-- Port 3. -/
  busy : BitVec 1
  /-- Port 4. -/
  resValid : BitVec 1
  /-- Port 5. -/
  resStatus : BitVec 3
  /-- Port 6. -/
  resTdiag : BitVec 2
  /-- Port 7. -/
  resFrame : BitVec 40
  /-- Port 8, W_RETRY bits. -/
  resAttempts : Nat
  /-- Port 9. -/
  resHumRaw : BitVec 16
  /-- Port 10. -/
  resTempRaw : BitVec 16
  deriving DecidableEq, Repr

/-- The values on the result port (30_encoding R108). -/
def State.resultPort (s : State) : ResultPort where
  busy := flagBit s.busy
  resValid := flagBit s.resValid
  resStatus := s.resStatus.code
  resTdiag := s.resTdiag.code
  resFrame := s.resFrame
  resAttempts := s.resAttempts
  resHumRaw := s.resHumRaw
  resTempRaw := s.resTempRaw

/-- The GPIO port's outputs in the step just taken (30_encoding R112). -/
structure GpioPort where
  /-- Port 11. -/
  gpioOp : BitVec 3
  /-- Port 12, W_PIN bits. -/
  gpioPin : Nat
  deriving DecidableEq, Repr

/-- The values on the GPIO port (30_encoding R112). -/
def State.gpioPort (s : State) : GpioPort where
  gpioOp := s.out.gpioOp.code
  gpioPin := s.gpioPin

/-- Port 15, `dly_req`, in the step just taken (30_encoding R113). -/
def State.dlyReqBit (s : State) : BitVec 1 := flagBit s.out.dlyReq.isSome

end Sys2Proof.Machine
end

