-- ==== Sys2Proof/Machine/Converter.lean ====
section
/-!
DEFINITION. The host-side reference function of 43_converter, which is no part of the block (00_scope R3):
no state of the block depends on it. The quotient is IEEE-754 binary64 division by 10.0, rounded to nearest
with ties to even (R232); its bit pattern is computed exactly on natural numbers
(notes/assumptions/18.md).
-/

namespace Sys2Proof.Machine

/-- The quotient `n / d` rounded to the nearest natural number, a tie to the even one. -/
def divNearestEven (n d : Nat) : Nat :=
  let q := n / d
  let r := n % d
  if 2 * r < d then q else if d < 2 * r then q + 1 else q + q % 2

/-- Four more than the binary exponent of `raw / 10`, for `raw` at least 1. -/
def tenthsExponent (raw : Nat) : Nat := Nat.log2 (16 * raw / 10)

/-- The significand of `raw / 10` in units of `2 ^ (exponent - 52)`, rounded. -/
def tenthsSignificand (raw : Nat) : Nat :=
  divNearestEven (raw * 2 ^ (56 - tenthsExponent raw)) 10

/-- The binary64 bit pattern of `double(raw) / 10.0` for a 16-bit `raw` (43_converter R232): the sign is 0,
the biased exponent is `1023 + exponent`, the fraction is the significand less its leading bit. A carry out
of the significand goes into the exponent field. -/
def tenthsBits (raw : BitVec 16) : BitVec 64 :=
  if raw.toNat = 0 then 0#64
  else
    BitVec.ofNat 64
      ((tenthsExponent raw.toNat + 1019) * 2 ^ 52 + (tenthsSignificand raw.toNat - 2 ^ 52))

/-- A Reading: the pair of binary64 values, as bit patterns (00_scope R14, 43_converter R232, R233). -/
structure Reading where
  humidityPercent : BitVec 64
  temperatureCelsius : BitVec 64
  deriving DecidableEq, Repr

/-- The Value Converter: pure and total, with no sign, bounds or range processing (43_converter R232 to
R235). -/
def toReading (humRaw tempRaw : BitVec 16) : Reading where
  humidityPercent := tenthsBits humRaw
  temperatureCelsius := tenthsBits tempRaw

/-- The Reading of a published result: the conversion is applied only to a result with
`res_status = OK` (43_converter R235), while `res_valid = 1` (60_exceptions R296). -/
def State.reading (s : State) : Option Reading :=
  if s.resValid = true ∧ s.resStatus = .ok then some (toReading s.resHumRaw s.resTempRaw) else none

end Sys2Proof.Machine
end

