-- ==== Sys2Proof/Machine/Scenario.lean ====
section
/-!
DEFINITION. The scenarios of 30_encoding R116: a request, the LINE's answers to successive reads, and
immediate delays. They fix what the free agents do (92 D32), so that a whole read can be played. The
machine does not use them.
-/

namespace Sys2Proof.Machine

/-- A scenario (30_encoding R116): its parameter line, its request line and its line of runs. -/
structure Scenario where
  params : Config.Params
  pin : Nat
  retries : Nat
  ready : Bool
  /-- `H3 L2` is `[(.high, 3), (.low, 2)]`. -/
  line : List (Level × Nat)
  deriving DecidableEq, Repr

/-- The answers of the LINE in read order: each run is that many consecutive reads (R116). -/
def Scenario.samples (c : Scenario) : List Level :=
  c.line.flatMap fun r => List.replicate r.2 r.1

/-- The inputs of one step of a scenario: the request in the first step only, the level that the LINE
answers next, and `dly_done` in the step right after a request (R116, `DELAY immediate`). -/
def Scenario.inputs (c : Scenario) (first : Bool) (s : State) (level : Level) : Config.Inputs where
  req := first
  reqPin := c.pin
  reqMaxRetries := c.retries
  gpioLevel := level
  gpioReady := c.ready
  dlyDone := s.dlyPend
  rst := false

/-- One step under given inputs, in place of the free ones. -/
def stepWith (x : Config.Inputs) (s : State) : Host.Outcome State Fault Refusal :=
  step { s with inp := x }

/-- One step of a scenario from a state and the answers not yet given. A step that reads the line takes one
answer; with none left the scenario says nothing. -/
def Scenario.play1 (c : Scenario) (first : Bool) (s : State) (answers : List Level) :
    Option (State × List Level) :=
  let reading := s.fetch.isSampling
  match reading, answers with
  | true, [] => none
  | _, _ =>
    match stepWith (c.inputs first s (answers.headD .low)) s with
    | .next t => some (t, if reading then answers.tail else answers)
    | .fault _ => none
    | .refused _ => none

/-- `n` further steps of a scenario, with `req = 0`. -/
def Scenario.play (c : Scenario) : Nat → State → List Level → Option (State × List Level)
  | 0, s, answers => some (s, answers)
  | n + 1, s, answers =>
    match c.play1 false s answers with
    | some (t, rest) => c.play n t rest
    | none => none

/-- `n + 1` steps of a scenario from the reset state, the first one with `req = 1` (95_test_vectors
section 0). -/
def Scenario.run (c : Scenario) (n : Nat) : Option (State × List Level) :=
  match c.play1 true (State.resetWith c.params) c.samples with
  | some (t, rest) => c.play n t rest
  | none => none

end Sys2Proof.Machine
end

