-- ==== Sys2Proof/Safety.lean ====
section
/-!
DEFINITION. What claims are stated in terms of: the invariant of the reachable states (10_state R51, with
what the rules around it say of the registers), runs under chosen inputs, and the end of a read.
-/

namespace Sys2Proof.Machine

open Sys2Proof

/-- Steps under the given inputs, one for each, stopping at the first that answers no next state. -/
def feed : List Config.Inputs → State → Host.Outcome State Fault Refusal
  | [], s => .next s
  | x :: xs, s =>
    match stepWith x s with
    | .next t => feed xs t
    | .fault r => .fault r
    | .refused r => .refused r

/-- What the block drove on its event outputs in each of those steps, in order (20_memory R82). -/
def feedOutputs : List Config.Inputs → State → List Outputs
  | [], _ => []
  | x :: xs, s =>
    match stepWith x s with
    | .next t => t.out :: feedOutputs xs t
    | .fault _ => []
    | .refused _ => []

/-- The inputs of a step that only reads the line, at a level. -/
def readInputs (l : Level) : Config.Inputs where
  req := false
  reqPin := 0
  reqMaxRetries := 0
  gpioLevel := l
  gpioReady := true
  dlyDone := false
  rst := false

/-- What the measurement of one phase reads: a count below the cap is that many samples at its level and then
one at the other, the first of the next phase (10_state R50); the cap is that many samples and no other
(40_sampler R143). -/
def phaseInputs (cap : Nat) (level other : Level) (n : Nat) : List Config.Inputs :=
  List.replicate n (readInputs level) ++ if n < cap then [readInputs other] else []

/-- What the sampling of one bit reads: its low phase and its high phase. -/
def bitInputs (cap nl nh : Nat) : List Config.Inputs :=
  phaseInputs cap .low .high nl ++ phaseInputs cap .high .low nh

/-- What the sampling of 40 bits reads, in order. -/
def wireInputs (cap : Nat) (low high : Fin 40 → Nat) : List Config.Inputs :=
  (List.finRange 40).flatMap fun k => bitInputs cap (low k) (high k)

/-- A read has ended normally: `IDLE` with `res_valid = 1` (44_retry R255). -/
def State.Ended (s : State) : Prop := s.fetch = .idle ∧ s.resValid = true

/-- Inputs whose line is at a level and that do not reset: what one sampling step of a phase sees. -/
def Sees (x : Config.Inputs) (l : Level) : Prop := x.gpioLevel = l ∧ x.rst = false

/-- What holds in every reachable state: the list of 10_state R51 and what R32 to R44 say of the registers'
values. A step from any state that meets it gives a state that meets it. -/
structure State.Inv (s : State) : Prop where
  /-- The parameter set is admitted (00_scope R6, R7). -/
  params_wf : s.params.WellFormed
  /-- The request port's values have the port's widths (30_encoding R107). -/
  inputs_wf : s.inp.WellFormed s.params
  /-- `pin` has W_PIN bits (R32). -/
  pin_fits : s.pin < 2 ^ s.params.wPin
  /-- `max_retries` has W_RETRY bits (R33). -/
  maxRetries_fits : s.maxRetries < 2 ^ s.params.wRetry
  /-- `res_attempts` has W_RETRY bits (R44). -/
  resAttempts_fits : s.resAttempts < 2 ^ s.params.wRetry
  /-- Every trace entry has W_CNT bits (R37). -/
  trace_fits : ∀ (j : Nat) (h : j < 80), s.trace[j] < 2 ^ s.params.wCnt
  /-- `0 <= bi <= 39` (R51). -/
  bi_range : s.bi.toNat ≤ 39
  /-- `0 <= attempt <= max_retries` (R51, R34). -/
  attempt_range : s.attempt ≤ s.maxRetries
  /-- `COOLDOWN` is entered only with `attempt < max_retries` (R251). -/
  cooldown_retry : s.fetch = .cooldown → s.attempt < s.maxRetries
  /-- `dly_pend = 1` only in a hold state (R51, R39). -/
  pend_hold : s.dlyPend = true → s.fetch.isHold = true
  /-- The DELAY agent has raised `dly_done` only for a pending request (60_exceptions R294). -/
  done_pending : s.inp.dlyDone = true → s.dlyPend = true
  /-- `cnt` never exceeds `max(P_CAP, P_ACK_TIMEOUT)` (R35). -/
  cnt_range : s.cnt ≤ max s.params.pCap s.params.pAckTimeout
  /-- In a seek state, `cnt < P_ACK_TIMEOUT` (R51). -/
  seek_budget : s.fetch = .acklSeek ∨ s.fetch = .ackhSeek → s.cnt < s.params.pAckTimeout
  /-- In a sample state, `cnt < P_CAP` (R51). -/
  sample_budget : s.fetch = .sampleLow ∨ s.fetch = .sampleHigh → s.cnt < s.params.pCap
  /-- In SAMPLE_LOW the entries before `2*bi` are written, and in `[0, P_CAP]` (R51, R37). -/
  written_low : s.fetch = .sampleLow →
    ∀ (j : Nat) (h : j < 80), j < s.lowIndex → s.trace[j] ≤ s.params.pCap
  /-- In SAMPLE_HIGH the entries before `2*bi + 1` are written, and in `[0, P_CAP]` (R51, R37). -/
  written_high : s.fetch = .sampleHigh →
    ∀ (j : Nat) (h : j < 80), j < s.highIndex → s.trace[j] ≤ s.params.pCap
  /-- In DECODE all 80 entries are written, and in `[0, P_CAP]` (R51, R177). -/
  written_all : s.fetch = .decode → ∀ (j : Nat) (h : j < 80), s.trace[j] ≤ s.params.pCap
  /-- `res_valid = 0` whenever `st != IDLE` (R51). -/
  busy_unpublished : s.fetch ≠ .idle → s.resValid = false
  /-- With `res_valid = 0` the result registers hold what acceptance or reset left (R41, 41 R162). -/
  unpublished_clear : s.resValid = false →
    s.resStatus = .ok ∧ s.resTdiag = .none ∧ s.resFrame = 0#40 ∧ s.resAttempts = 0
  /-- `INVALID_ARGUMENT` is never produced (30_encoding R103, 60_exceptions R274). -/
  kind_produced : s.resStatus ≠ .invalidArgument
  /-- The diagnostic is `NONE` exactly when the kind is not `TIMEOUT` (30_encoding R104). -/
  diag_timeout : s.resTdiag = .none ↔ s.resStatus ≠ .timeout
  /-- `res_frame` is 0 for every kind but `OK` (R43). -/
  frame_failed : s.resStatus ≠ .ok → s.resFrame = 0#40
  /-- A published `OK` carries a frame whose checksum agrees (42_decoder R203, R204). -/
  frame_checked : s.resValid = true → s.resStatus = .ok →
    ∃ f : Vector Byte 5, s.resFrame = frameWord f ∧ checksum f = f[4]
  /-- A published result carries the read's attempt counter (R44). -/
  attempts_published : s.resValid = true → s.resAttempts = s.attempt

end Sys2Proof.Machine
end

