-- ==== Sys2Proof/Certificates/Slice0/Obligations.lean ====
section
/-!
DEFINITION. The statements for the provers. Each docstring names the rule of spec/ that the statement
formalises. Codes of `st` are written out as 30_encoding R101 gives them.
-/

open Sys2Proof Sys2Proof.Machine

/-! ### Encoding -/

/-- 30_encoding R100, R101, R102: a control state's byte reads back as it, whatever follows; every 4-bit code
is the code of the state it names; a byte with a bit above bit 3 names none. That a code is read from a byte,
with zeros above it, is the model's choice (notes/assumptions/17.md). -/
def Obligations.DecodeAndEncodeAgree : Prop :=
  (∀ (i : Instr) (rest : List Byte), i.WellFormed → decodeBytes (encodeBytes i ++ rest) = .ok (i, rest)) ∧
  (∀ c : StCode, encode (decodeCode c) = c) ∧
  (∀ (b : Byte) (rest : List Byte), 16 ≤ b.toNat → decodeBytes (b :: rest) = .error .upperBitsSet) ∧
  (∀ w : Nat, 16 ≤ w → w < 256 → decodeTableWord 8 w = none)

/-- 30_encoding R101: a word of each family, from the table of the codes. A sanity statement. That a code is
read from a byte is the model's choice (notes/assumptions/17.md). -/
def Obligations.StateWordsAsTabled : Prop :=
  decodeTableWord 8 0b0000 = some .idle ∧ decodeTableWord 8 0b0001 = some .hsCfgOut ∧
  decodeTableWord 8 0b0011 = some .hsHoldLow ∧ decodeTableWord 8 0b0111 = some .hsPullup ∧
  decodeTableWord 8 0b1000 = some .acklSeek ∧ decodeTableWord 8 0b1011 = some .ackhExit ∧
  decodeTableWord 8 0b1100 = some .sampleLow ∧ decodeTableWord 8 0b1110 = some .decode ∧
  decodeTableWord 8 0b1111 = some .cooldown

/-- 30_encoding R101, columns "st", "reads line" and "GPIO primitive issued": each state's code, and the
primitive its step issues, READ_LEVEL in the six sampling states and nowhere else (41_sequencer R163). -/
def Obligations.StateTableCodesAndPrimitives : Prop :=
  ∀ (i : Instr) (s t : State), exec i s = .next t →
    (encode i, t.out.gpioOp) =
      (match i with
        | .idle => (0x0#4, .nop)
        | .hsCfgOut => (0x1#4, .cfgOutput)
        | .hsDriveLow => (0x2#4, .writeLow)
        | .hsHoldLow => (0x3#4, .nop)
        | .hsDriveHigh => (0x4#4, .writeHigh)
        | .hsHoldHigh => (0x5#4, .nop)
        | .hsCfgIn => (0x6#4, .cfgInput)
        | .hsPullup => (0x7#4, .setPullUp)
        | .acklSeek => (0x8#4, .readLevel)
        | .acklExit => (0x9#4, .readLevel)
        | .ackhSeek => (0xA#4, .readLevel)
        | .ackhExit => (0xB#4, .readLevel)
        | .sampleLow => (0xC#4, .readLevel)
        | .sampleHigh => (0xD#4, .readLevel)
        | .decode => (0xE#4, .nop)
        | .cooldown => (0xF#4, .nop)) ∧
    (t.out.gpioOp = .readLevel ↔ i.isSampling = true)

/-! ### The step, reset, and the other agents -/

/-- 30_encoding R114, R115: with an admitted parameter set and `rst = 0`, a step is the operation that `st`
names, and then the other agents present the next inputs. That the inputs stand in the state, are drawn by
number (`tick`) and obey the DELAY agent's law is the model's choice (notes/assumptions/4.md, 6.md), as is
that only `step` joins an operation to `st` (notes/assumptions/22.md). -/
def Obligations.StepRunsDecodedState : Prop :=
  ∀ s : State, s.params.WellFormed → s.inp.rst = false →
    (∀ t, exec (decodeCode s.st) s = .next t →
      step s = .next { t with inp := nextInputs s t, tick := s.tick + 1 }) ∧
    (∀ r, exec (decodeCode s.st) s = .refused r → step s = .refused r)

/-- 00_scope R7: a parameter set that breaks a constraint of R6 has no run, and only such a set is refused
so. -/
def Obligations.InvalidParametersHaveNoRun : Prop :=
  ∀ s : State,
    ((1 ≤ s.params.pCap ∧ s.params.pCap ≤ 2 ^ s.params.wCnt - 1 ∧
      1 ≤ s.params.pAckTimeout ∧ s.params.pAckTimeout ≤ 2 ^ s.params.wCnt - 1 ∧
      1000 ≤ s.params.pTStartLowUs ∧
      max s.params.pTStartLowUs (max s.params.pTReleaseUs s.params.pTCooldownUs) ≤
        2 ^ s.params.wDly - 1 ∧
      1 ≤ s.params.wCnt ∧ 1 ≤ s.params.wRetry ∧ 1 ≤ s.params.wPin ∧ 1 ≤ s.params.wDly) ↔
      step s ≠ .refused .invalidParameters)

/-- 00_scope R6, 20_memory R87: the parameters are fixed for the life of the model. That they stand in the
state is the model's choice (notes/assumptions/1.md). -/
def Obligations.ParametersNeverChange : Prop :=
  ∀ s t : State, step s = .next t → t.params = s.params

/-- 70_reset R310: what an edge with `rst = 1` leaves, from any state, and what it drives. -/
def Obligations.ResetEdgeTakesResetColumn : Prop :=
  ∀ s : State, s.params.WellFormed → s.inp.rst = true →
    ∃ t, step s = .next t ∧
      t.st = 0x0#4 ∧ t.pin = 0 ∧ t.maxRetries = 0 ∧ t.attempt = 0 ∧ t.cnt = 0 ∧ t.bi = 0#6 ∧
      t.dlyPend = false ∧ t.resValid = false ∧ t.resStatus = .ok ∧ t.resTdiag = .none ∧
      t.resFrame = 0#40 ∧ t.resAttempts = 0 ∧
      t.out = { gpioOp := .nop, dlyReq := none }

/-- 10_state R51 at reset: the invariant holds right after reset under every admitted parameter set, and at
`State.reset`. The clause about `State.reset` names the model's own parameter set (log entry 2). -/
def Obligations.ResetStatesMeetInvariant : Prop :=
  (∀ p : Config.Params, p.WellFormed → (State.resetWith p).Inv) ∧ State.reset.Inv

/-- 10_state R51 (with R32 to R44, 30_encoding R104, 60_exceptions R274, R294): every step keeps the
invariant. Its clause on `dly_done` rests on the DELAY agent's law as the model reads it
(notes/assumptions/6.md, 7.md). -/
def Obligations.EveryStepKeepsInvariant : Prop :=
  ∀ s t : State, s.Inv → step s = .next t → t.Inv

/-- 93 I14, 00_scope R7: in a state that meets the invariant, the block always takes its step. -/
def Obligations.InvariantStatesAlwaysStep : Prop :=
  ∀ s : State, s.Inv → ∃ t, step s = .next t

/-- Every operation answers a next state, whatever the inputs, but that a sampling state needs a `bi` that
names a bit (10_state R36, 93 I14). -/
def Obligations.EveryOperationCompletes : Prop :=
  ∀ (i : Instr) (s : State), (i = .sampleLow ∨ i = .sampleHigh → s.bi.toNat ≤ 39) →
    ∃ t, exec i s = .next t

/-- With `bi` of 40 to 63, values that never occur (10_state R36, 93 I14), a sampling step that would record is
refused by name, and any other counts. To refuse only the recording is the model's choice
(notes/assumptions/11.md), as is the narrowing of `cnt` there (notes/assumptions/3.md). -/
def Obligations.RecordingOutsideTraceIsRefused : Prop :=
  ∀ s : State, 40 ≤ s.bi.toNat →
    exec .sampleLow s =
      (if s.inp.gpioLevel = .high ∨ s.cnt + 1 = s.params.pCap then .refused .traceIndexUnreachable
      else .next { s with out := ⟨.readLevel, none⟩, cnt := (s.cnt + 1) % 2 ^ s.params.wCnt }) ∧
    exec .sampleHigh s =
      (if s.inp.gpioLevel = .low ∨ s.cnt + 1 = s.params.pCap then .refused .traceIndexUnreachable
      else .next { s with out := ⟨.readLevel, none⟩, cnt := (s.cnt + 1) % 2 ^ s.params.wCnt })

/-- 70_reset R313, 60_exceptions R294, 30_encoding R113: after a reset edge `dly_done` is low. In a step it
does not rise with no request pending; once high it stays until it is consumed; it is low after that; while a
request is pending and unanswered, its next value is the free draw's. The law is read from those rules by
inference (notes/assumptions/6.md, 7.md). -/
def Obligations.DelayAgentKeepsItsLaw : Prop :=
  ∀ s t : State, step s = .next t →
    (s.inp.rst = true → t.inp.dlyDone = false) ∧
    (s.inp.rst = false →
      (s.inp.dlyDone = false → t.dlyPend = false → t.inp.dlyDone = false) ∧
      (s.inp.dlyDone = true → ¬ (s.dlyPend = true ∧ t.dlyPend = false) → t.inp.dlyDone = true) ∧
      (s.dlyPend = true → t.dlyPend = false → t.inp.dlyDone = false) ∧
      (s.inp.dlyDone = false → t.dlyPend = true →
        t.inp.dlyDone = (Config.freeInputs s.tick).dlyDone))

/-! ### The sequencer's states -/

/-- 41_sequencer R162: IDLE with no request, with one, and with one while the driver is not ready. -/
def Obligations.IdleAcceptsOrReports : Prop :=
  ∀ s : State, s.inp.WellFormed s.params →
    exec .idle s = .next
      (if s.inp.req = false then { s with out := .quiet }
      else if s.inp.gpioReady = false then
        { s with
          out := .quiet, pin := s.inp.reqPin, maxRetries := s.inp.reqMaxRetries, attempt := 0
          resValid := true, resStatus := .driverInitFailure, resTdiag := .none
          resFrame := 0#40, resAttempts := 0 }
      else
        { s with
          out := .quiet, pin := s.inp.reqPin, maxRetries := s.inp.reqMaxRetries, attempt := 0
          resValid := false, resStatus := .ok, resTdiag := .none
          resFrame := 0#40, resAttempts := 0, st := 0x1#4 })

/-- 41_sequencer R164, R165, R167, R169, R170: the five states that issue one primitive and move on, each
with its whole next state. -/
def Obligations.PrimitiveStatesIssueAndMoveOn : Prop :=
  ∀ s : State,
    exec .hsCfgOut s = .next { s with out := ⟨.cfgOutput, none⟩, st := 0x2#4 } ∧
    exec .hsDriveLow s = .next { s with out := ⟨.writeLow, none⟩, st := 0x3#4 } ∧
    exec .hsDriveHigh s = .next { s with out := ⟨.writeHigh, none⟩, st := 0x5#4 } ∧
    exec .hsCfgIn s = .next { s with out := ⟨.cfgInput, none⟩, st := 0x7#4 } ∧
    exec .hsPullup s = .next { s with out := ⟨.setPullUp, none⟩, cnt := 0, st := 0x8#4 }

/-- 41_sequencer R161, R166: HS_HOLD_LOW, with its whole next state. -/
def Obligations.HoldLowRequestsWaitsMovesOn : Prop :=
  ∀ s : State, exec .hsHoldLow s = .next
    (if s.dlyPend = false then
      { s with out := ⟨.nop, some s.params.pTStartLowUs⟩, dlyPend := true }
    else if s.inp.dlyDone = true then { s with out := .quiet, dlyPend := false, st := 0x4#4 }
    else { s with out := .quiet })

/-- 41_sequencer R161, R168: HS_HOLD_HIGH, with its whole next state. -/
def Obligations.HoldHighRequestsWaitsMovesOn : Prop :=
  ∀ s : State, exec .hsHoldHigh s = .next
    (if s.dlyPend = false then
      { s with out := ⟨.nop, some s.params.pTReleaseUs⟩, dlyPend := true }
    else if s.inp.dlyDone = true then { s with out := .quiet, dlyPend := false, st := 0x6#4 }
    else { s with out := .quiet })

/-- 44_retry R251, 41_sequencer R161: COOLDOWN, with its whole next state. The premise is R51's
`attempt < max_retries` in COOLDOWN with `max_retries` in its width; the invariant states both. -/
def Obligations.CooldownCountsTheRetry : Prop :=
  ∀ s : State, s.attempt < s.maxRetries → s.maxRetries < 2 ^ s.params.wRetry →
    exec .cooldown s = .next
      (if s.dlyPend = false then
        { s with out := ⟨.nop, some s.params.pTCooldownUs⟩, dlyPend := true }
      else if s.inp.dlyDone = true then
        { s with out := .quiet, dlyPend := false, attempt := s.attempt + 1, st := 0x1#4 }
      else { s with out := .quiet })

/-- 40_sampler R141, 41_sequencer R171, 44_retry R250, R252: ACKL_SEEK, with its whole next state. The
premise `cnt < P_ACK_TIMEOUT` is R51's. -/
def Obligations.AckLowSeekStep : Prop :=
  ∀ s : State, s.params.WellFormed → s.cnt < s.params.pAckTimeout →
    exec .acklSeek s = .next
      (if s.inp.gpioLevel = .low then { s with out := ⟨.readLevel, none⟩, st := 0x9#4 }
      else if s.cnt + 1 = s.params.pAckTimeout then
        (if s.attempt < s.maxRetries then
          { s with out := ⟨.readLevel, none⟩, cnt := s.cnt + 1, st := 0xF#4 }
        else
          { s with
            out := ⟨.readLevel, none⟩, cnt := s.cnt + 1, st := 0x0#4
            resValid := true, resStatus := .timeout, resTdiag := .noAckLow
            resFrame := 0#40, resAttempts := s.attempt })
      else { s with out := ⟨.readLevel, none⟩, cnt := s.cnt + 1 })

/-- 40_sampler R141, 41_sequencer R173, 44_retry R250, R252: ACKH_SEEK, with its whole next state. -/
def Obligations.AckHighSeekStep : Prop :=
  ∀ s : State, s.params.WellFormed → s.cnt < s.params.pAckTimeout →
    exec .ackhSeek s = .next
      (if s.inp.gpioLevel = .high then { s with out := ⟨.readLevel, none⟩, st := 0xB#4 }
      else if s.cnt + 1 = s.params.pAckTimeout then
        (if s.attempt < s.maxRetries then
          { s with out := ⟨.readLevel, none⟩, cnt := s.cnt + 1, st := 0xF#4 }
        else
          { s with
            out := ⟨.readLevel, none⟩, cnt := s.cnt + 1, st := 0x0#4
            resValid := true, resStatus := .timeout, resTdiag := .noAckHigh
            resFrame := 0#40, resAttempts := s.attempt })
      else { s with out := ⟨.readLevel, none⟩, cnt := s.cnt + 1 })

/-- 40_sampler R142, 41_sequencer R172, R174: the two exit waits, each with its whole next state. -/
def Obligations.ExitStatesWaitForTheOtherLevel : Prop :=
  ∀ s : State,
    exec .acklExit s = .next
      (if s.inp.gpioLevel = .low then { s with out := ⟨.readLevel, none⟩ }
      else { s with out := ⟨.readLevel, none⟩, cnt := 0, st := 0xA#4 }) ∧
    exec .ackhExit s = .next
      (if s.inp.gpioLevel = .high then { s with out := ⟨.readLevel, none⟩ }
      else { s with out := ⟨.readLevel, none⟩, cnt := 0, bi := 0#6, st := 0xC#4 })

/-- 40_sampler R143, 41_sequencer R175: SAMPLE_LOW, with its whole next state. The premises on `bi` and
`cnt` are R51's. -/
def Obligations.SampleLowStep : Prop :=
  ∀ (s : State) (hb : s.bi.toNat ≤ 39), s.params.WellFormed → s.cnt < s.params.pCap →
    exec .sampleLow s = .next
      (if s.inp.gpioLevel = .high then
        { s with
          out := ⟨.readLevel, none⟩, cnt := 0, st := 0xD#4
          trace := s.trace.set (2 * s.bi.toNat) s.cnt (by omega) }
      else if s.cnt + 1 = s.params.pCap then
        { s with
          out := ⟨.readLevel, none⟩, cnt := 0, st := 0xD#4
          trace := s.trace.set (2 * s.bi.toNat) s.params.pCap (by omega) }
      else { s with out := ⟨.readLevel, none⟩, cnt := s.cnt + 1 })

/-- 40_sampler R143, 41_sequencer R176: SAMPLE_HIGH, with its whole next state. After bit 39 the block goes
to DECODE and `bi` stays 39. -/
def Obligations.SampleHighStep : Prop :=
  ∀ (s : State) (hb : s.bi.toNat ≤ 39), s.params.WellFormed → s.cnt < s.params.pCap →
    exec .sampleHigh s = .next
      (if s.inp.gpioLevel = .high ∧ s.cnt + 1 ≠ s.params.pCap then
        { s with out := ⟨.readLevel, none⟩, cnt := s.cnt + 1 }
      else
        { s with
          out := ⟨.readLevel, none⟩, cnt := 0
          trace := s.trace.set (2 * s.bi.toNat + 1)
            (if s.inp.gpioLevel = .high then s.params.pCap else s.cnt) (by omega)
          bi := if s.bi.toNat = 39 then s.bi else s.bi + 1#6
          st := if s.bi.toNat = 39 then 0xE#4 else 0xC#4 })

/-! ### The bit-slicer, the checksum and DECODE -/

/-- 42_decoder R204, R205, 44_retry R250, R252: DECODE of a trace with a sentinel is a TIMEOUT with
SAMPLE_STALL, and `frame` is not written. -/
def Obligations.SentinelIsATimeout : Prop :=
  ∀ (s : State) (j : Nat) (hj : j < 80), s.trace[j] = s.params.pCap →
    exec .decode s = .next
      (if s.attempt < s.maxRetries then { s with out := .quiet, st := 0xF#4 }
      else
        { s with
          out := .quiet, st := 0x0#4
          resValid := true, resStatus := .timeout, resTdiag := .sampleStall
          resFrame := 0#40, resAttempts := s.attempt })

/-- 42_decoder R201, R202, R203, R204: DECODE of a trace with no sentinel. `f` is the frame whose bit for
wire bit `k`, bit `7 - k mod 8` of byte `k div 8`, is 1 exactly when high entry `2k+1` is strictly greater
than low entry `2k`; it is written, and accepted exactly when its checksum agrees. -/
def Obligations.DecodeSlicesAndChecks : Prop :=
  ∀ (s : State) (f : Vector Byte 5),
    (∀ (j : Nat) (hj : j < 80), s.trace[j] ≠ s.params.pCap) →
    (∀ (k : Nat) (hk : k < 40),
      f[k / 8].getLsbD (7 - k % 8) = decide (s.trace[2 * k] < s.trace[2 * k + 1])) →
    exec .decode s = .next
      (if (f[0].toNat + f[1].toNat + f[2].toNat + f[3].toNat) % 256 = f[4].toNat then
        { s with
          out := .quiet, frame := f, st := 0x0#4
          resValid := true, resStatus := .ok, resTdiag := .none
          resFrame := f[0] ++ f[1] ++ f[2] ++ f[3] ++ f[4], resAttempts := s.attempt }
      else if s.attempt < s.maxRetries then { s with out := .quiet, frame := f, st := 0xF#4 }
      else
        { s with
          out := .quiet, frame := f, st := 0x0#4
          resValid := true, resStatus := .checksumMismatch, resTdiag := .none
          resFrame := 0#40, resAttempts := s.attempt })

/-- 42_decoder R207, the source's first testable property: a trace with no sentinel whose comparisons spell
four bytes and their sum mod 256 decodes to exactly those five bytes, and is valid. -/
def Obligations.EveryFrameRoundTrips : Prop :=
  ∀ (s : State) (b0 b1 b2 b3 b4 : Byte),
    b4.toNat = (b0.toNat + b1.toNat + b2.toNat + b3.toNat) % 256 →
    (∀ (j : Nat) (hj : j < 80), s.trace[j] ≠ s.params.pCap) →
    (∀ (k : Nat) (hk : k < 40),
      (s.trace[2 * k] < s.trace[2 * k + 1] ↔
        (b0 ++ b1 ++ b2 ++ b3 ++ b4).getLsbD (39 - k) = true)) →
    ∃ t, exec .decode s = .next t ∧ t.fetch = .idle ∧ t.resValid = true ∧ t.resStatus = .ok ∧
      t.resTdiag = .none ∧ t.frame = #v[b0, b1, b2, b3, b4] ∧
      t.resFrame = b0 ++ b1 ++ b2 ++ b3 ++ b4 ∧ t.resAttempts = s.attempt ∧
      t.resHumRaw = b0 ++ b1 ∧ t.resTempRaw = b2 ++ b3

/-- 20_memory R76, R77, 42_decoder R201, R202: wire bit `k` of a sliced trace is bit `39 - k` of the packed
frame. -/
def Obligations.WireBitsArriveMostSignificantFirst : Prop :=
  ∀ (tr : Vector Nat 80) (k : Nat) (hk : k < 40),
    (frameWord (sliceFrame tr)).getLsbD (39 - k) = decide (tr[2 * k] < tr[2 * k + 1])

/-- 42_decoder R203: the checksum is the exact sum of four bytes, mod 256. -/
def Obligations.ChecksumIsSumModulo256 : Prop :=
  ∀ f : Vector Byte 5,
    (checksum f).toNat = (f[0].toNat + f[1].toNat + f[2].toNat + f[3].toNat) % 256

/-- 20_memory R77, 10_state R46, 30_encoding R109, R110: the bytes of the packed frame, and the raw words at
the result port. -/
def Obligations.RawWordsAreFrameSlices : Prop :=
  ∀ (s : State) (f : Vector Byte 5), s.resFrame = frameWord f →
    s.resHumRaw = f[0] ++ f[1] ∧ s.resTempRaw = f[2] ++ f[3] ∧
    ∀ (k : Nat) (hk : k < 5), s.resFrame.extractLsb' (32 - 8 * k) 8 = f[k]

/-- 43_converter R232, R234: the host-side quotient `raw / 10.0` is the binary64 value nearest to it, a tie
to the even significand, for every 16-bit word with no sign taken; 0 gives positive zero. The significand is
`m`, the biased exponent `e`. The rounding is the spec's from general knowledge, and the bit layout the
model's (notes/assumptions/18.md). -/
def Obligations.TenthsRoundToNearestEven : Prop :=
  tenthsBits 0#16 = 0#64 ∧
  ∀ raw : BitVec 16, raw ≠ 0#16 →
    ∃ e m : Nat, 1 ≤ e ∧ e < 1075 ∧ 2 ^ 52 ≤ m ∧ m ≤ 2 ^ 53 ∧
      tenthsBits raw = BitVec.ofNat 64 (e * 2 ^ 52 + (m - 2 ^ 52)) ∧
      2 * 10 * m ≤ 2 * (raw.toNat * 2 ^ (1075 - e)) + 10 ∧
      2 * (raw.toNat * 2 ^ (1075 - e)) ≤ 2 * 10 * m + 10 ∧
      (2 * 10 * m = 2 * (raw.toNat * 2 ^ (1075 - e)) + 10 ∨
        2 * (raw.toNat * 2 ^ (1075 - e)) = 2 * 10 * m + 10 → m % 2 = 0)

/-! ### Rules about the whole machine -/

/-- 10_state R30, column "written by states": in a step of a state that the table does not name for it, a
register keeps its value; no operation changes the parameters, the inputs or the draw counter, three fields
that are the model's own (notes/assumptions/1.md, 4.md). -/
def Obligations.RegistersChangeOnlyWhereTabled : Prop :=
  ∀ (i : Instr) (s t : State), exec i s = .next t →
    (i ≠ .idle → t.pin = s.pin ∧ t.maxRetries = s.maxRetries) ∧
    (i ≠ .idle → i ≠ .cooldown → t.attempt = s.attempt) ∧
    (i ≠ .hsPullup → i.isSampling = false → t.cnt = s.cnt) ∧
    (i ≠ .ackhExit → i ≠ .sampleHigh → t.bi = s.bi) ∧
    (i ≠ .sampleLow → i ≠ .sampleHigh → t.trace = s.trace) ∧
    (i ≠ .decode → t.frame = s.frame) ∧
    (i.isHold = false → t.dlyPend = s.dlyPend) ∧
    (i ≠ .idle → i ≠ .acklSeek → i ≠ .ackhSeek → i ≠ .decode →
      t.resValid = s.resValid ∧ t.resStatus = s.resStatus ∧ t.resTdiag = s.resTdiag ∧
      t.resFrame = s.resFrame ∧ t.resAttempts = s.resAttempts) ∧
    t.params = s.params ∧ t.inp = s.inp ∧ t.tick = s.tick

/-- 10_state R37: a step writes at most the one trace entry of its phase, `2*bi` in SAMPLE_LOW and
`2*bi + 1` in SAMPLE_HIGH. -/
def Obligations.TraceWritesOneEntry : Prop :=
  ∀ (i : Instr) (s t : State), exec i s = .next t →
    ∀ (j : Nat) (hj : j < 80),
      ¬ (i = .sampleLow ∧ j = 2 * s.bi.toNat) → ¬ (i = .sampleHigh ∧ j = 2 * s.bi.toNat + 1) →
      t.trace[j] = s.trace[j]

/-- 20_memory R83, 41_sequencer R162, 44_retry R252: the five result registers change together. IDLE with no
request keeps all five, and with one it writes all five, in its two branches. Another operation keeps all five,
or writes all five with the kind and the diagnostic of its own failure or with `OK`, and ends in IDLE; from a
state that is not IDLE it comes to IDLE in no other way. -/
def Obligations.ResultsArePublishedWhole : Prop :=
  ∀ (i : Instr) (s t : State), exec i s = .next t →
    let kept := t.resValid = s.resValid ∧ t.resStatus = s.resStatus ∧ t.resTdiag = s.resTdiag ∧
      t.resFrame = s.resFrame ∧ t.resAttempts = s.resAttempts
    let published := t.fetch = .idle ∧ t.resValid = true ∧ t.resAttempts = s.attempt ∧
      ((i = .acklSeek ∧ t.resStatus = .timeout ∧ t.resTdiag = .noAckLow ∧ t.resFrame = 0#40) ∨
       (i = .ackhSeek ∧ t.resStatus = .timeout ∧ t.resTdiag = .noAckHigh ∧ t.resFrame = 0#40) ∨
       (i = .decode ∧ t.resStatus = .timeout ∧ t.resTdiag = .sampleStall ∧ t.resFrame = 0#40) ∨
       (i = .decode ∧ t.resStatus = .checksumMismatch ∧ t.resTdiag = .none ∧ t.resFrame = 0#40) ∨
       (i = .decode ∧ t.resStatus = .ok ∧ t.resTdiag = .none ∧ t.resFrame = frameWord t.frame))
    (i = .idle →
      (s.inp.req = false → kept) ∧
      (s.inp.req = true → s.inp.gpioReady = true →
        t.resValid = false ∧ t.resStatus = .ok ∧ t.resTdiag = .none ∧ t.resFrame = 0#40 ∧
        t.resAttempts = 0) ∧
      (s.inp.req = true → s.inp.gpioReady = false →
        t.resValid = true ∧ t.resStatus = .driverInitFailure ∧ t.resTdiag = .none ∧
        t.resFrame = 0#40 ∧ t.resAttempts = 0)) ∧
    (i ≠ .idle → (kept ∨ published) ∧ (s.fetch ≠ .idle → t.fetch = .idle → published))

/-- 60_exceptions R270, R271, R272, R273: a result that a step publishes has the cause its kind names, and no
other event publishes it. -/
def Obligations.PublishedResultHasItsCause : Prop :=
  ∀ (i : Instr) (s t : State), exec i s = .next t → s.resValid = false → t.resValid = true →
    (t.resStatus = .driverInitFailure ∧ t.resTdiag = .none ∧ i = .idle ∧ s.inp.req = true ∧
      s.inp.gpioReady = false) ∨
    (t.resStatus = .timeout ∧ t.resTdiag = .noAckLow ∧ i = .acklSeek ∧ s.inp.gpioLevel = .high ∧
      s.cnt + 1 = s.params.pAckTimeout ∧ ¬ s.attempt < s.maxRetries) ∨
    (t.resStatus = .timeout ∧ t.resTdiag = .noAckHigh ∧ i = .ackhSeek ∧ s.inp.gpioLevel = .low ∧
      s.cnt + 1 = s.params.pAckTimeout ∧ ¬ s.attempt < s.maxRetries) ∨
    (t.resStatus = .timeout ∧ t.resTdiag = .sampleStall ∧ i = .decode ∧
      (∃ (j : Nat) (hj : j < 80), s.trace[j] = s.params.pCap) ∧ ¬ s.attempt < s.maxRetries) ∨
    (t.resStatus = .checksumMismatch ∧ t.resTdiag = .none ∧ i = .decode ∧
      (∀ (j : Nat) (hj : j < 80), s.trace[j] ≠ s.params.pCap) ∧
      checksum t.frame ≠ t.frame[4] ∧ ¬ s.attempt < s.maxRetries) ∨
    (t.resStatus = .ok ∧ t.resTdiag = .none ∧ i = .decode ∧
      (∀ (j : Nat) (hj : j < 80), s.trace[j] ≠ s.params.pCap) ∧
      checksum t.frame = t.frame[4] ∧ t.resFrame = frameWord t.frame)

/-- 30_encoding R115, 70_reset R314, 60_exceptions R273: what an operation does depends only on the inputs
named for it. Outside IDLE the request port and `gpio_ready` have no effect, outside the hold states
`dly_done` has none, outside the sampling states the line has none. -/
def Obligations.OperationsReadOnlyTheirInputs : Prop :=
  ∀ (i : Instr) (s t : State) (x : Config.Inputs), exec i s = .next t →
    (i = .idle → x.req = s.inp.req ∧ x.reqPin = s.inp.reqPin ∧
      x.reqMaxRetries = s.inp.reqMaxRetries ∧ x.gpioReady = s.inp.gpioReady) →
    (i.isHold = true → x.dlyDone = s.inp.dlyDone) →
    (i.isSampling = true → x.gpioLevel = s.inp.gpioLevel) →
    exec i { s with inp := x } = .next { t with inp := x }

/-- 30_encoding R113, 41_sequencer R161: a delay is requested only by a hold state with none outstanding,
for that state's duration, and by no step that issues a primitive; `dly_pend` marks it. -/
def Obligations.DelayRequestsComeFromHoldStates : Prop :=
  ∀ (i : Instr) (s t : State) (us : Nat), exec i s = .next t → t.out.dlyReq = some us →
    s.dlyPend = false ∧ t.dlyPend = true ∧ t.out.gpioOp = .nop ∧
    ((i = .hsHoldLow ∧ us = s.params.pTStartLowUs) ∨ (i = .hsHoldHigh ∧ us = s.params.pTReleaseUs) ∨
      (i = .cooldown ∧ us = s.params.pTCooldownUs))

/-- 10_state R45: `busy` is 1 exactly when `st` is not IDLE's code. -/
def Obligations.BusyMeansNotIdle : Prop :=
  ∀ s : State, s.busy = true ↔ s.fetch ≠ .idle

/-- 30_encoding R105: in a reachable state no reserved code stands on `res_status` or `gpio_op`. -/
def Obligations.ReservedCodesAreNeverDriven : Prop :=
  ∀ s : State, s.Inv →
    s.resultPort.resStatus ≠ 0b100#3 ∧ s.resultPort.resStatus ≠ 0b101#3 ∧
    s.resultPort.resStatus ≠ 0b110#3 ∧ s.resultPort.resStatus ≠ 0b111#3 ∧
    s.gpioPort.gpioOp ≠ 0b111#3

/-- 44_retry R255, R256: an accepted read comes back to IDLE only by publishing a result or by `rst`. -/
def Obligations.ReadsEndOnlyByPublishing : Prop :=
  ∀ s t : State, s.Inv → s.fetch ≠ .idle → step s = .next t → t.fetch = .idle →
    s.inp.rst = true ∨ (s.resValid = false ∧ t.Ended)

/-- 10_state R34, 60_exceptions R282: within a read the attempt counter moves only at the end of COOLDOWN, by
one, on the way to HS_CFG_OUT. -/
def Obligations.AttemptMovesOnlyAtCooldownEnd : Prop :=
  ∀ s t : State, s.Inv → s.inp.rst = false → s.fetch ≠ .idle → step s = .next t →
    t.attempt = s.attempt ∨
    (s.fetch = .cooldown ∧ s.dlyPend = true ∧ s.inp.dlyDone = true ∧ t.attempt = s.attempt + 1 ∧
      t.fetch = .hsCfgOut)

/-- 60_exceptions R280, R281, 44_retry R250: a step into COOLDOWN keeps the result registers, the attempt
counter and the latches, and comes from a seek state's last miss or from DECODE, with a retry left. -/
def Obligations.RetriedFailureSavesNothing : Prop :=
  ∀ (i : Instr) (s t : State), exec i s = .next t → s.fetch ≠ .cooldown → t.fetch = .cooldown →
    s.attempt < s.maxRetries ∧ (i = .acklSeek ∨ i = .ackhSeek ∨ i = .decode) ∧
    t.attempt = s.attempt ∧ t.pin = s.pin ∧ t.maxRetries = s.maxRetries ∧ t.trace = s.trace ∧
    t.resValid = s.resValid ∧ t.resStatus = s.resStatus ∧ t.resTdiag = s.resTdiag ∧
    t.resFrame = s.resFrame ∧ t.resAttempts = s.resAttempts

/-! ### Runs of several steps under chosen inputs -/

/-- 41_sequencer R178, 30_encoding R117, 70_reset R321: the host start signal takes nine steps with
immediate delays and drives its events in the source's order. -/
def Obligations.StartSignalTakesNineSteps : Prop :=
  ∀ (s : State) (x1 x2 x3 x4 x5 x6 x7 x8 x9 : Config.Inputs),
    s.params.WellFormed → s.fetch = .hsCfgOut → s.dlyPend = false →
    (∀ x ∈ [x1, x2, x3, x4, x5, x6, x7, x8, x9], x.rst = false) →
    x4.dlyDone = true → x7.dlyDone = true →
    (∃ t, feed [x1, x2, x3, x4, x5, x6, x7, x8, x9] s = .next t ∧ t.fetch = .acklSeek ∧ t.cnt = 0 ∧
      t.dlyPend = false ∧ t.pin = s.pin ∧ t.attempt = s.attempt ∧ t.trace = s.trace) ∧
    feedOutputs [x1, x2, x3, x4, x5, x6, x7, x8, x9] s =
      [⟨.cfgOutput, none⟩, ⟨.writeLow, none⟩, ⟨.nop, some s.params.pTStartLowUs⟩, .quiet,
        ⟨.writeHigh, none⟩, ⟨.nop, some s.params.pTReleaseUs⟩, .quiet, ⟨.cfgInput, none⟩,
        ⟨.setPullUp, none⟩]

/-- 40_sampler R141, R146: a seek from `cnt = 0` that misses fewer than `P_ACK_TIMEOUT` times and then sees
its target goes to its exit state with the misses in `cnt`. -/
def Obligations.SeekSucceedsWithinBudget : Prop :=
  ∀ (s : State) (xs : List Config.Inputs) (y : Config.Inputs),
    s.params.WellFormed → s.cnt = 0 → xs.length < s.params.pAckTimeout →
    (s.fetch = .acklSeek → (∀ x ∈ xs, Sees x .high) → Sees y .low →
      ∃ t, feed (xs ++ [y]) s = .next t ∧ t.fetch = .acklExit ∧ t.cnt = xs.length) ∧
    (s.fetch = .ackhSeek → (∀ x ∈ xs, Sees x .low) → Sees y .high →
      ∃ t, feed (xs ++ [y]) s = .next t ∧ t.fetch = .ackhExit ∧ t.cnt = xs.length)

/-- 40_sampler R141, R146, 44_retry R250, for both seeks: a seek from `cnt = 0` fails at its
`P_ACK_TIMEOUT`-th miss: into COOLDOWN while a retry is left, and otherwise with a published TIMEOUT whose
diagnostic is the seek's own. -/
def Obligations.SeekFailsAtBudget : Prop :=
  ∀ (s : State) (xs : List Config.Inputs),
    s.params.WellFormed → s.cnt = 0 → xs.length = s.params.pAckTimeout →
    (s.fetch = .acklSeek → (∀ x ∈ xs, Sees x .high) →
      ∃ t, feed xs s = .next t ∧ t.cnt = s.params.pAckTimeout ∧
        (s.attempt < s.maxRetries → t.fetch = .cooldown ∧ t.resValid = s.resValid) ∧
        (¬ s.attempt < s.maxRetries → t.Ended ∧ t.resStatus = .timeout ∧ t.resTdiag = .noAckLow ∧
          t.resFrame = 0#40 ∧ t.resAttempts = s.attempt)) ∧
    (s.fetch = .ackhSeek → (∀ x ∈ xs, Sees x .low) →
      ∃ t, feed xs s = .next t ∧ t.cnt = s.params.pAckTimeout ∧
        (s.attempt < s.maxRetries → t.fetch = .cooldown ∧ t.resValid = s.resValid) ∧
        (¬ s.attempt < s.maxRetries → t.Ended ∧ t.resStatus = .timeout ∧ t.resTdiag = .noAckHigh ∧
          t.resFrame = 0#40 ∧ t.resAttempts = s.attempt))

/-- 40_sampler R142, 70_reset R317: a line that stays at the awaited level keeps the block in its exit state,
busy, for any number of steps. -/
def Obligations.ExitWaitsCanLastForAnyTime : Prop :=
  ∀ (s : State) (xs : List Config.Inputs), s.params.WellFormed →
    (s.fetch = .acklExit → (∀ x ∈ xs, Sees x .low) →
      ∃ t, feed xs s = .next t ∧ t.fetch = .acklExit ∧ t.busy = true ∧ t.resValid = s.resValid) ∧
    (s.fetch = .ackhExit → (∀ x ∈ xs, Sees x .high) →
      ∃ t, feed xs s = .next t ∧ t.fetch = .ackhExit ∧ t.busy = true ∧ t.resValid = s.resValid)

/-- 40_sampler R143, R146, for SAMPLE_LOW from `cnt = 0`: `n < P_CAP` samples at LOW and then one at HIGH
record `n`; `P_CAP` samples at LOW record the sentinel. Either way the measurement ends in SAMPLE_HIGH. -/
def Obligations.LowPhaseRecordsItsRun : Prop :=
  ∀ (s : State) (xs : List Config.Inputs) (hb : s.bi.toNat ≤ 39),
    s.params.WellFormed → s.fetch = .sampleLow → s.cnt = 0 → (∀ x ∈ xs, Sees x .low) →
    (∀ y, Sees y .high → xs.length < s.params.pCap →
      ∃ t, feed (xs ++ [y]) s = .next t ∧ t.fetch = .sampleHigh ∧ t.cnt = 0 ∧ t.bi = s.bi ∧
        t.trace = s.trace.set (2 * s.bi.toNat) xs.length (by omega)) ∧
    (xs.length = s.params.pCap →
      ∃ t, feed xs s = .next t ∧ t.fetch = .sampleHigh ∧ t.cnt = 0 ∧ t.bi = s.bi ∧
        t.trace = s.trace.set (2 * s.bi.toNat) s.params.pCap (by omega))

/-- 10_state R37, R50, 40_sampler R143, 41_sequencer R177: sampling 40 bits ends in DECODE with all 80 entries
captured, entry `2k` from the low phase and entry `2k+1` from the high phase of bit `k`, however many phases
are at the cap; and it reads at most `80 * P_CAP` samples. A count is what is left of its phase when its
measurement starts. -/
def Obligations.SamplingCapturesEveryPhase : Prop :=
  ∀ (s : State) (low high : Fin 40 → Nat), s.params.WellFormed → s.fetch = .sampleLow →
    s.bi = 0#6 → s.cnt = 0 →
    (∀ k, low k ≤ s.params.pCap) → (∀ k, high k ≤ s.params.pCap) →
    (wireInputs s.params.pCap low high).length ≤ 80 * s.params.pCap ∧
    ∃ t, feed (wireInputs s.params.pCap low high) s = .next t ∧ t.fetch = .decode ∧ t.cnt = 0 ∧
      t.bi = 39#6 ∧ ∀ k : Fin 40, t.trace[2 * k.val] = low k ∧ t.trace[2 * k.val + 1] = high k

/-- 44_retry R253, R254, 95 RET-3 for every bound and budget: with no sensor on the line, a read with
`max_retries = m` makes exactly `m + 1` attempts with `m` cooldowns, in `1 + (m + 1) * (9 + P_ACK_TIMEOUT) +
2 * m` steps and `(m + 1) * P_ACK_TIMEOUT` samples, and publishes TIMEOUT with NO_ACK_LOW and `m`. -/
def Obligations.SilentLineExhaustsEveryAttempt : Prop :=
  ∀ c : Scenario, c.params.WellFormed → c.pin < 2 ^ c.params.wPin →
    c.retries < 2 ^ c.params.wRetry → c.ready = true →
    c.line = [(.high, (c.retries + 1) * c.params.pAckTimeout)] →
    ∃ t, c.run ((c.retries + 1) * (9 + c.params.pAckTimeout) + 2 * c.retries) = some (t, []) ∧
      t.Ended ∧ t.pin = c.pin ∧ t.resStatus = .timeout ∧ t.resTdiag = .noAckLow ∧
      t.resFrame = 0#40 ∧ t.resAttempts = c.retries

/-- 41_sequencer R177, 40_sampler R143: whatever the line does, sampling goes on to DECODE within `80 * P_CAP`
samples, an early sentinel or not, and leaves every entry in `[0, P_CAP]`. -/
def Obligations.SamplingReachesDecode : Prop :=
  ∀ (s : State) (xs : List Config.Inputs), s.params.WellFormed → s.fetch = .sampleLow →
    s.bi = 0#6 → s.cnt = 0 → (∀ x ∈ xs, x.rst = false) → xs.length = 80 * s.params.pCap →
    ∃ n, 80 ≤ n ∧ n ≤ xs.length ∧ ∃ t, feed (xs.take n) s = .next t ∧ t.fetch = .decode ∧
      ∀ (j : Nat) (hj : j < 80), t.trace[j] ≤ s.params.pCap

/-! ### The ports -/

/-- 30_encoding R103, R104, R112, 00_scope R13: every code of `res_status`, `res_tdiag`, `gpio_op` and of a
level, and that a reserved code names no kind and no primitive. -/
def Obligations.PortCodesAsTabled : Prop :=
  (∀ k : ResultKind, k.code =
    (match k with
      | .ok => 0b000#3
      | .timeout => 0b001#3
      | .checksumMismatch => 0b010#3
      | .driverInitFailure => 0b011#3
      | .invalidArgument => 0b100#3)) ∧
  (∀ d : TimeoutDiag, d.code =
    (match d with
      | .none => 0b00#2
      | .noAckLow => 0b01#2
      | .noAckHigh => 0b10#2
      | .sampleStall => 0b11#2)) ∧
  (∀ g : GpioOp, g.code =
    (match g with
      | .nop => 0b000#3
      | .cfgOutput => 0b001#3
      | .cfgInput => 0b010#3
      | .setPullUp => 0b011#3
      | .writeLow => 0b100#3
      | .writeHigh => 0b101#3
      | .readLevel => 0b110#3)) ∧
  (∀ l : Level, levelBit l = (match l with | .low => 0#1 | .high => 1#1)) ∧
  (∀ k : ResultKind, k.code ∉ [0b101#3, 0b110#3, 0b111#3]) ∧ (∀ g : GpioOp, g.code ≠ 0b111#3)

/-- 30_encoding R108, 10_state R45, R46: the eight values on the result port. The raw words are bits 39 to 24
and bits 23 to 8 of `res_frame`, read as numbers. -/
def Obligations.ResultPortShowsTheRegisters : Prop :=
  ∀ s : State,
    s.resultPort.busy = (if s.st = 0x0#4 then 0#1 else 1#1) ∧
    s.resultPort.resValid = (if s.resValid then 1#1 else 0#1) ∧
    s.resultPort.resStatus = s.resStatus.code ∧ s.resultPort.resTdiag = s.resTdiag.code ∧
    s.resultPort.resFrame = s.resFrame ∧ s.resultPort.resAttempts = s.resAttempts ∧
    s.resultPort.resHumRaw.toNat = s.resFrame.toNat / 2 ^ 24 ∧
    s.resultPort.resTempRaw.toNat = s.resFrame.toNat / 2 ^ 8 % 2 ^ 16

/-- 30_encoding R112, R113: `gpio_pin` is always the register `pin`; `gpio_op` is the code of the primitive the
step issued; `dly_req` is 1 exactly in a step that requested a delay. That a step's outputs stand in the state
after it is the model's choice (notes/assumptions/10.md). -/
def Obligations.GpioAndDelayPortsShowTheStep : Prop :=
  ∀ (i : Instr) (s t : State), exec i s = .next t →
    t.gpioPort.gpioPin = t.pin ∧
    t.gpioPort.gpioOp =
      (match i with
        | .idle | .hsHoldLow | .hsHoldHigh | .decode | .cooldown => 0b000#3
        | .hsCfgOut => 0b001#3
        | .hsCfgIn => 0b010#3
        | .hsPullup => 0b011#3
        | .hsDriveLow => 0b100#3
        | .hsDriveHigh => 0b101#3
        | .acklSeek | .acklExit | .ackhSeek | .ackhExit | .sampleLow | .sampleHigh => 0b110#3) ∧
    (t.dlyReqBit = 1#1 ↔ i.isHold = true ∧ s.dlyPend = false) ∧
    (t.dlyReqBit = 1#1 ↔ ∃ us, t.out.dlyReq = some us)
end

