-- ==== Sys2Proof/Laws/State.lean ====
section
/-!
SUPPORT. One lemma for each field of State under each update of Ops, true by rfl, so that no proof unfolds a
record update.
-/

namespace Sys2Proof.Machine

variable (s : State)

@[simp] theorem State.goto_st (i : Instr) : (s.goto i).st = encode i := rfl
@[simp] theorem State.goto_pin (i : Instr) : (s.goto i).pin = s.pin := rfl
@[simp] theorem State.goto_maxRetries (i : Instr) : (s.goto i).maxRetries = s.maxRetries := rfl
@[simp] theorem State.goto_attempt (i : Instr) : (s.goto i).attempt = s.attempt := rfl
@[simp] theorem State.goto_cnt (i : Instr) : (s.goto i).cnt = s.cnt := rfl
@[simp] theorem State.goto_bi (i : Instr) : (s.goto i).bi = s.bi := rfl
@[simp] theorem State.goto_trace (i : Instr) : (s.goto i).trace = s.trace := rfl
@[simp] theorem State.goto_frame (i : Instr) : (s.goto i).frame = s.frame := rfl
@[simp] theorem State.goto_dlyPend (i : Instr) : (s.goto i).dlyPend = s.dlyPend := rfl
@[simp] theorem State.goto_resValid (i : Instr) : (s.goto i).resValid = s.resValid := rfl
@[simp] theorem State.goto_resStatus (i : Instr) : (s.goto i).resStatus = s.resStatus := rfl
@[simp] theorem State.goto_resTdiag (i : Instr) : (s.goto i).resTdiag = s.resTdiag := rfl
@[simp] theorem State.goto_resFrame (i : Instr) : (s.goto i).resFrame = s.resFrame := rfl
@[simp] theorem State.goto_resAttempts (i : Instr) : (s.goto i).resAttempts = s.resAttempts := rfl
@[simp] theorem State.goto_params (i : Instr) : (s.goto i).params = s.params := rfl
@[simp] theorem State.goto_inp (i : Instr) : (s.goto i).inp = s.inp := rfl
@[simp] theorem State.goto_out (i : Instr) : (s.goto i).out = s.out := rfl
@[simp] theorem State.goto_tick (i : Instr) : (s.goto i).tick = s.tick := rfl

@[simp] theorem State.drive_st (op : GpioOp) (d : Option Nat) : (s.drive op d).st = s.st := rfl
@[simp] theorem State.drive_pin (op : GpioOp) (d : Option Nat) : (s.drive op d).pin = s.pin := rfl
@[simp] theorem State.drive_maxRetries (op : GpioOp) (d : Option Nat) :
    (s.drive op d).maxRetries = s.maxRetries := rfl
@[simp] theorem State.drive_attempt (op : GpioOp) (d : Option Nat) :
    (s.drive op d).attempt = s.attempt := rfl
@[simp] theorem State.drive_cnt (op : GpioOp) (d : Option Nat) : (s.drive op d).cnt = s.cnt := rfl
@[simp] theorem State.drive_bi (op : GpioOp) (d : Option Nat) : (s.drive op d).bi = s.bi := rfl
@[simp] theorem State.drive_trace (op : GpioOp) (d : Option Nat) :
    (s.drive op d).trace = s.trace := rfl
@[simp] theorem State.drive_frame (op : GpioOp) (d : Option Nat) :
    (s.drive op d).frame = s.frame := rfl
@[simp] theorem State.drive_dlyPend (op : GpioOp) (d : Option Nat) :
    (s.drive op d).dlyPend = s.dlyPend := rfl
@[simp] theorem State.drive_resValid (op : GpioOp) (d : Option Nat) :
    (s.drive op d).resValid = s.resValid := rfl
@[simp] theorem State.drive_resStatus (op : GpioOp) (d : Option Nat) :
    (s.drive op d).resStatus = s.resStatus := rfl
@[simp] theorem State.drive_resTdiag (op : GpioOp) (d : Option Nat) :
    (s.drive op d).resTdiag = s.resTdiag := rfl
@[simp] theorem State.drive_resFrame (op : GpioOp) (d : Option Nat) :
    (s.drive op d).resFrame = s.resFrame := rfl
@[simp] theorem State.drive_resAttempts (op : GpioOp) (d : Option Nat) :
    (s.drive op d).resAttempts = s.resAttempts := rfl
@[simp] theorem State.drive_params (op : GpioOp) (d : Option Nat) :
    (s.drive op d).params = s.params := rfl
@[simp] theorem State.drive_inp (op : GpioOp) (d : Option Nat) : (s.drive op d).inp = s.inp := rfl
@[simp] theorem State.drive_out (op : GpioOp) (d : Option Nat) :
    (s.drive op d).out = { gpioOp := op, dlyReq := d } := rfl
@[simp] theorem State.drive_tick (op : GpioOp) (d : Option Nat) :
    (s.drive op d).tick = s.tick := rfl

@[simp] theorem State.setCnt_st (n : Nat) : (s.setCnt n).st = s.st := rfl
@[simp] theorem State.setCnt_pin (n : Nat) : (s.setCnt n).pin = s.pin := rfl
@[simp] theorem State.setCnt_maxRetries (n : Nat) : (s.setCnt n).maxRetries = s.maxRetries := rfl
@[simp] theorem State.setCnt_attempt (n : Nat) : (s.setCnt n).attempt = s.attempt := rfl
@[simp] theorem State.setCnt_cnt (n : Nat) : (s.setCnt n).cnt = narrow s.params.wCnt n := rfl
@[simp] theorem State.setCnt_bi (n : Nat) : (s.setCnt n).bi = s.bi := rfl
@[simp] theorem State.setCnt_trace (n : Nat) : (s.setCnt n).trace = s.trace := rfl
@[simp] theorem State.setCnt_frame (n : Nat) : (s.setCnt n).frame = s.frame := rfl
@[simp] theorem State.setCnt_dlyPend (n : Nat) : (s.setCnt n).dlyPend = s.dlyPend := rfl
@[simp] theorem State.setCnt_resValid (n : Nat) : (s.setCnt n).resValid = s.resValid := rfl
@[simp] theorem State.setCnt_resStatus (n : Nat) : (s.setCnt n).resStatus = s.resStatus := rfl
@[simp] theorem State.setCnt_resTdiag (n : Nat) : (s.setCnt n).resTdiag = s.resTdiag := rfl
@[simp] theorem State.setCnt_resFrame (n : Nat) : (s.setCnt n).resFrame = s.resFrame := rfl
@[simp] theorem State.setCnt_resAttempts (n : Nat) : (s.setCnt n).resAttempts = s.resAttempts := rfl
@[simp] theorem State.setCnt_params (n : Nat) : (s.setCnt n).params = s.params := rfl
@[simp] theorem State.setCnt_inp (n : Nat) : (s.setCnt n).inp = s.inp := rfl
@[simp] theorem State.setCnt_out (n : Nat) : (s.setCnt n).out = s.out := rfl
@[simp] theorem State.setCnt_tick (n : Nat) : (s.setCnt n).tick = s.tick := rfl

@[simp] theorem State.setAttempt_st (n : Nat) : (s.setAttempt n).st = s.st := rfl
@[simp] theorem State.setAttempt_pin (n : Nat) : (s.setAttempt n).pin = s.pin := rfl
@[simp] theorem State.setAttempt_maxRetries (n : Nat) :
    (s.setAttempt n).maxRetries = s.maxRetries := rfl
@[simp] theorem State.setAttempt_attempt (n : Nat) :
    (s.setAttempt n).attempt = narrow s.params.wRetry n := rfl
@[simp] theorem State.setAttempt_cnt (n : Nat) : (s.setAttempt n).cnt = s.cnt := rfl
@[simp] theorem State.setAttempt_bi (n : Nat) : (s.setAttempt n).bi = s.bi := rfl
@[simp] theorem State.setAttempt_trace (n : Nat) : (s.setAttempt n).trace = s.trace := rfl
@[simp] theorem State.setAttempt_frame (n : Nat) : (s.setAttempt n).frame = s.frame := rfl
@[simp] theorem State.setAttempt_dlyPend (n : Nat) : (s.setAttempt n).dlyPend = s.dlyPend := rfl
@[simp] theorem State.setAttempt_resValid (n : Nat) : (s.setAttempt n).resValid = s.resValid := rfl
@[simp] theorem State.setAttempt_resStatus (n : Nat) :
    (s.setAttempt n).resStatus = s.resStatus := rfl
@[simp] theorem State.setAttempt_resTdiag (n : Nat) : (s.setAttempt n).resTdiag = s.resTdiag := rfl
@[simp] theorem State.setAttempt_resFrame (n : Nat) : (s.setAttempt n).resFrame = s.resFrame := rfl
@[simp] theorem State.setAttempt_resAttempts (n : Nat) :
    (s.setAttempt n).resAttempts = s.resAttempts := rfl
@[simp] theorem State.setAttempt_params (n : Nat) : (s.setAttempt n).params = s.params := rfl
@[simp] theorem State.setAttempt_inp (n : Nat) : (s.setAttempt n).inp = s.inp := rfl
@[simp] theorem State.setAttempt_out (n : Nat) : (s.setAttempt n).out = s.out := rfl
@[simp] theorem State.setAttempt_tick (n : Nat) : (s.setAttempt n).tick = s.tick := rfl

@[simp] theorem State.nextAttempt_st : (s.nextAttempt).st = s.st := rfl
@[simp] theorem State.nextAttempt_pin : (s.nextAttempt).pin = s.pin := rfl
@[simp] theorem State.nextAttempt_maxRetries : (s.nextAttempt).maxRetries = s.maxRetries := rfl
@[simp] theorem State.nextAttempt_attempt :
    (s.nextAttempt).attempt = narrow s.params.wRetry (s.attempt + 1) := rfl
@[simp] theorem State.nextAttempt_cnt : (s.nextAttempt).cnt = s.cnt := rfl
@[simp] theorem State.nextAttempt_bi : (s.nextAttempt).bi = s.bi := rfl
@[simp] theorem State.nextAttempt_trace : (s.nextAttempt).trace = s.trace := rfl
@[simp] theorem State.nextAttempt_frame : (s.nextAttempt).frame = s.frame := rfl
@[simp] theorem State.nextAttempt_dlyPend : (s.nextAttempt).dlyPend = s.dlyPend := rfl
@[simp] theorem State.nextAttempt_resValid : (s.nextAttempt).resValid = s.resValid := rfl
@[simp] theorem State.nextAttempt_resStatus : (s.nextAttempt).resStatus = s.resStatus := rfl
@[simp] theorem State.nextAttempt_resTdiag : (s.nextAttempt).resTdiag = s.resTdiag := rfl
@[simp] theorem State.nextAttempt_resFrame : (s.nextAttempt).resFrame = s.resFrame := rfl
@[simp] theorem State.nextAttempt_resAttempts : (s.nextAttempt).resAttempts = s.resAttempts := rfl
@[simp] theorem State.nextAttempt_params : (s.nextAttempt).params = s.params := rfl
@[simp] theorem State.nextAttempt_inp : (s.nextAttempt).inp = s.inp := rfl
@[simp] theorem State.nextAttempt_out : (s.nextAttempt).out = s.out := rfl
@[simp] theorem State.nextAttempt_tick : (s.nextAttempt).tick = s.tick := rfl

@[simp] theorem State.publish_st (v : Bool) (k : ResultKind) (d : TimeoutDiag) (f : BitVec 40) (a : Nat) :
    (s.publish v k d f a).st = s.st := rfl
@[simp] theorem State.publish_pin (v : Bool) (k : ResultKind) (d : TimeoutDiag) (f : BitVec 40) (a : Nat) :
    (s.publish v k d f a).pin = s.pin := rfl
@[simp] theorem State.publish_maxRetries (v : Bool) (k : ResultKind) (d : TimeoutDiag) (f : BitVec 40) (a : Nat) :
    (s.publish v k d f a).maxRetries = s.maxRetries := rfl
@[simp] theorem State.publish_attempt (v : Bool) (k : ResultKind) (d : TimeoutDiag) (f : BitVec 40) (a : Nat) :
    (s.publish v k d f a).attempt = s.attempt := rfl
@[simp] theorem State.publish_cnt (v : Bool) (k : ResultKind) (d : TimeoutDiag) (f : BitVec 40) (a : Nat) :
    (s.publish v k d f a).cnt = s.cnt := rfl
@[simp] theorem State.publish_bi (v : Bool) (k : ResultKind) (d : TimeoutDiag) (f : BitVec 40) (a : Nat) :
    (s.publish v k d f a).bi = s.bi := rfl
@[simp] theorem State.publish_trace (v : Bool) (k : ResultKind) (d : TimeoutDiag) (f : BitVec 40) (a : Nat) :
    (s.publish v k d f a).trace = s.trace := rfl
@[simp] theorem State.publish_frame (v : Bool) (k : ResultKind) (d : TimeoutDiag) (f : BitVec 40) (a : Nat) :
    (s.publish v k d f a).frame = s.frame := rfl
@[simp] theorem State.publish_dlyPend (v : Bool) (k : ResultKind) (d : TimeoutDiag) (f : BitVec 40) (a : Nat) :
    (s.publish v k d f a).dlyPend = s.dlyPend := rfl
@[simp] theorem State.publish_resValid (v : Bool) (k : ResultKind) (d : TimeoutDiag) (f : BitVec 40) (a : Nat) :
    (s.publish v k d f a).resValid = v := rfl
@[simp] theorem State.publish_resStatus (v : Bool) (k : ResultKind) (d : TimeoutDiag) (f : BitVec 40) (a : Nat) :
    (s.publish v k d f a).resStatus = k := rfl
@[simp] theorem State.publish_resTdiag (v : Bool) (k : ResultKind) (d : TimeoutDiag) (f : BitVec 40) (a : Nat) :
    (s.publish v k d f a).resTdiag = d := rfl
@[simp] theorem State.publish_resFrame (v : Bool) (k : ResultKind) (d : TimeoutDiag) (f : BitVec 40) (a : Nat) :
    (s.publish v k d f a).resFrame = f := rfl
@[simp] theorem State.publish_resAttempts (v : Bool) (k : ResultKind) (d : TimeoutDiag) (f : BitVec 40) (a : Nat) :
    (s.publish v k d f a).resAttempts = a := rfl
@[simp] theorem State.publish_params (v : Bool) (k : ResultKind) (d : TimeoutDiag) (f : BitVec 40) (a : Nat) :
    (s.publish v k d f a).params = s.params := rfl
@[simp] theorem State.publish_inp (v : Bool) (k : ResultKind) (d : TimeoutDiag) (f : BitVec 40) (a : Nat) :
    (s.publish v k d f a).inp = s.inp := rfl
@[simp] theorem State.publish_out (v : Bool) (k : ResultKind) (d : TimeoutDiag) (f : BitVec 40) (a : Nat) :
    (s.publish v k d f a).out = s.out := rfl
@[simp] theorem State.publish_tick (v : Bool) (k : ResultKind) (d : TimeoutDiag) (f : BitVec 40) (a : Nat) :
    (s.publish v k d f a).tick = s.tick := rfl

@[simp] theorem State.complete_st (k : ResultKind) (d : TimeoutDiag) (f : BitVec 40) :
    (s.complete k d f).st = encode .idle := rfl
@[simp] theorem State.complete_pin (k : ResultKind) (d : TimeoutDiag) (f : BitVec 40) :
    (s.complete k d f).pin = s.pin := rfl
@[simp] theorem State.complete_maxRetries (k : ResultKind) (d : TimeoutDiag) (f : BitVec 40) :
    (s.complete k d f).maxRetries = s.maxRetries := rfl
@[simp] theorem State.complete_attempt (k : ResultKind) (d : TimeoutDiag) (f : BitVec 40) :
    (s.complete k d f).attempt = s.attempt := rfl
@[simp] theorem State.complete_cnt (k : ResultKind) (d : TimeoutDiag) (f : BitVec 40) :
    (s.complete k d f).cnt = s.cnt := rfl
@[simp] theorem State.complete_bi (k : ResultKind) (d : TimeoutDiag) (f : BitVec 40) :
    (s.complete k d f).bi = s.bi := rfl
@[simp] theorem State.complete_trace (k : ResultKind) (d : TimeoutDiag) (f : BitVec 40) :
    (s.complete k d f).trace = s.trace := rfl
@[simp] theorem State.complete_frame (k : ResultKind) (d : TimeoutDiag) (f : BitVec 40) :
    (s.complete k d f).frame = s.frame := rfl
@[simp] theorem State.complete_dlyPend (k : ResultKind) (d : TimeoutDiag) (f : BitVec 40) :
    (s.complete k d f).dlyPend = s.dlyPend := rfl
@[simp] theorem State.complete_resValid (k : ResultKind) (d : TimeoutDiag) (f : BitVec 40) :
    (s.complete k d f).resValid = true := rfl
@[simp] theorem State.complete_resStatus (k : ResultKind) (d : TimeoutDiag) (f : BitVec 40) :
    (s.complete k d f).resStatus = k := rfl
@[simp] theorem State.complete_resTdiag (k : ResultKind) (d : TimeoutDiag) (f : BitVec 40) :
    (s.complete k d f).resTdiag = d := rfl
@[simp] theorem State.complete_resFrame (k : ResultKind) (d : TimeoutDiag) (f : BitVec 40) :
    (s.complete k d f).resFrame = f := rfl
@[simp] theorem State.complete_resAttempts (k : ResultKind) (d : TimeoutDiag) (f : BitVec 40) :
    (s.complete k d f).resAttempts = s.attempt := rfl
@[simp] theorem State.complete_params (k : ResultKind) (d : TimeoutDiag) (f : BitVec 40) :
    (s.complete k d f).params = s.params := rfl
@[simp] theorem State.complete_inp (k : ResultKind) (d : TimeoutDiag) (f : BitVec 40) :
    (s.complete k d f).inp = s.inp := rfl
@[simp] theorem State.complete_out (k : ResultKind) (d : TimeoutDiag) (f : BitVec 40) :
    (s.complete k d f).out = s.out := rfl
@[simp] theorem State.complete_tick (k : ResultKind) (d : TimeoutDiag) (f : BitVec 40) :
    (s.complete k d f).tick = s.tick := rfl

@[simp] theorem State.latchRequest_st : (s.latchRequest).st = s.st := rfl
@[simp] theorem State.latchRequest_pin : (s.latchRequest).pin = s.reqPin := rfl
@[simp] theorem State.latchRequest_maxRetries : (s.latchRequest).maxRetries = s.reqMaxRetries := rfl
@[simp] theorem State.latchRequest_attempt : (s.latchRequest).attempt = 0 := rfl
@[simp] theorem State.latchRequest_cnt : (s.latchRequest).cnt = s.cnt := rfl
@[simp] theorem State.latchRequest_bi : (s.latchRequest).bi = s.bi := rfl
@[simp] theorem State.latchRequest_trace : (s.latchRequest).trace = s.trace := rfl
@[simp] theorem State.latchRequest_frame : (s.latchRequest).frame = s.frame := rfl
@[simp] theorem State.latchRequest_dlyPend : (s.latchRequest).dlyPend = s.dlyPend := rfl
@[simp] theorem State.latchRequest_resValid : (s.latchRequest).resValid = s.resValid := rfl
@[simp] theorem State.latchRequest_resStatus : (s.latchRequest).resStatus = s.resStatus := rfl
@[simp] theorem State.latchRequest_resTdiag : (s.latchRequest).resTdiag = s.resTdiag := rfl
@[simp] theorem State.latchRequest_resFrame : (s.latchRequest).resFrame = s.resFrame := rfl
@[simp] theorem State.latchRequest_resAttempts : (s.latchRequest).resAttempts = s.resAttempts := rfl
@[simp] theorem State.latchRequest_params : (s.latchRequest).params = s.params := rfl
@[simp] theorem State.latchRequest_inp : (s.latchRequest).inp = s.inp := rfl
@[simp] theorem State.latchRequest_out : (s.latchRequest).out = s.out := rfl
@[simp] theorem State.latchRequest_tick : (s.latchRequest).tick = s.tick := rfl

@[simp] theorem advance_st (t : State) : (advance s t).st = t.st := rfl
@[simp] theorem advance_pin (t : State) : (advance s t).pin = t.pin := rfl
@[simp] theorem advance_maxRetries (t : State) : (advance s t).maxRetries = t.maxRetries := rfl
@[simp] theorem advance_attempt (t : State) : (advance s t).attempt = t.attempt := rfl
@[simp] theorem advance_cnt (t : State) : (advance s t).cnt = t.cnt := rfl
@[simp] theorem advance_bi (t : State) : (advance s t).bi = t.bi := rfl
@[simp] theorem advance_trace (t : State) : (advance s t).trace = t.trace := rfl
@[simp] theorem advance_frame (t : State) : (advance s t).frame = t.frame := rfl
@[simp] theorem advance_dlyPend (t : State) : (advance s t).dlyPend = t.dlyPend := rfl
@[simp] theorem advance_resValid (t : State) : (advance s t).resValid = t.resValid := rfl
@[simp] theorem advance_resStatus (t : State) : (advance s t).resStatus = t.resStatus := rfl
@[simp] theorem advance_resTdiag (t : State) : (advance s t).resTdiag = t.resTdiag := rfl
@[simp] theorem advance_resFrame (t : State) : (advance s t).resFrame = t.resFrame := rfl
@[simp] theorem advance_resAttempts (t : State) : (advance s t).resAttempts = t.resAttempts := rfl
@[simp] theorem advance_params (t : State) : (advance s t).params = t.params := rfl
@[simp] theorem advance_inp (t : State) : (advance s t).inp = nextInputs s t := rfl
@[simp] theorem advance_out (t : State) : (advance s t).out = t.out := rfl
@[simp] theorem advance_tick (t : State) : (advance s t).tick = s.tick + 1 := rfl

@[simp] theorem resetEdge_st : (resetEdge s).st = 0x0#4 := rfl
@[simp] theorem resetEdge_pin : (resetEdge s).pin = 0 := rfl
@[simp] theorem resetEdge_maxRetries : (resetEdge s).maxRetries = 0 := rfl
@[simp] theorem resetEdge_attempt : (resetEdge s).attempt = 0 := rfl
@[simp] theorem resetEdge_cnt : (resetEdge s).cnt = 0 := rfl
@[simp] theorem resetEdge_bi : (resetEdge s).bi = 0#6 := rfl
@[simp] theorem resetEdge_trace :
    (resetEdge s).trace = (Config.freeTrace s.tick).map (narrow s.params.wCnt) := rfl
@[simp] theorem resetEdge_frame : (resetEdge s).frame = Config.freeFrame s.tick := rfl
@[simp] theorem resetEdge_dlyPend : (resetEdge s).dlyPend = false := rfl
@[simp] theorem resetEdge_resValid : (resetEdge s).resValid = false := rfl
@[simp] theorem resetEdge_resStatus : (resetEdge s).resStatus = .ok := rfl
@[simp] theorem resetEdge_resTdiag : (resetEdge s).resTdiag = .none := rfl
@[simp] theorem resetEdge_resFrame : (resetEdge s).resFrame = 0#40 := rfl
@[simp] theorem resetEdge_resAttempts : (resetEdge s).resAttempts = 0 := rfl
@[simp] theorem resetEdge_params : (resetEdge s).params = s.params := rfl
@[simp] theorem resetEdge_inp : (resetEdge s).inp = { nextInputs s s with dlyDone := false } := rfl
@[simp] theorem resetEdge_out : (resetEdge s).out = .quiet := rfl
@[simp] theorem resetEdge_tick : (resetEdge s).tick = s.tick + 1 := rfl

end Sys2Proof.Machine
end

