-- ==== Sys2Proof/Laws/Code.lean ====
section
/-!
SUPPORT. Codes of the control states, and what `st` names after it is written.
-/

namespace Sys2Proof

/-- Two states with one code are one state. -/
theorem encode_injective {i j : Instr} (h : encode i = encode j) : i = j := by
  cases i <;> cases j <;> first | rfl | exact absurd h (by decide)

/-- The code of a control state names it. -/
@[simp] theorem decodeCode_encode (i : Instr) : decodeCode (encode i) = i := by
  cases i <;> decide

namespace Machine

/-- After `st <- i` the next operation is `i`. -/
@[simp] theorem fetch_goto (s : State) (i : Instr) : (s.goto i).fetch = i :=
  decodeCode_encode i

/-- After a completion the next operation is IDLE. -/
@[simp] theorem fetch_complete (s : State) (k : ResultKind) (d : TimeoutDiag) (f : BitVec 40) :
    (s.complete k d f).fetch = .idle := decodeCode_encode .idle

/-- Two states with one `st` name one operation. -/
theorem fetch_congr {s t : State} (h : s.st = t.st) : s.fetch = t.fetch := by
  unfold State.fetch; rw [h]

/-- A state written out names the operation whose code its `st` is. -/
@[simp] theorem fetch_mk_encode (i : Instr) (a b c d : Nat) (e : BitVec 6) (f : Vector Nat 80) (g : Vector Byte 5)
    (h k : Bool) (l : ResultKind) (m : TimeoutDiag) (n : BitVec 40) (o : Nat) (p : Config.Params)
    (q : Config.Inputs) (r : Outputs) (t : Nat) :
    State.fetch ⟨encode i, a, b, c, d, e, f, g, h, k, l, m, n, o, p, q, r, t⟩ = i :=
  decodeCode_encode i

/-- A state written out with another's `st` names what that one names. -/
@[simp] theorem fetch_mk_st (s : State) (a b c d : Nat) (e : BitVec 6) (f : Vector Nat 80) (g : Vector Byte 5)
    (h k : Bool) (l : ResultKind) (m : TimeoutDiag) (n : BitVec 40) (o : Nat) (p : Config.Params)
    (q : Config.Inputs) (r : Outputs) (t : Nat) :
    State.fetch ⟨s.st, a, b, c, d, e, f, g, h, k, l, m, n, o, p, q, r, t⟩ = s.fetch := rfl

@[simp] theorem fetch_drive (s : State) (op : GpioOp) (d : Option Nat) :
    (s.drive op d).fetch = s.fetch := rfl

@[simp] theorem fetch_setCnt (s : State) (n : Nat) : (s.setCnt n).fetch = s.fetch := rfl

@[simp] theorem fetch_publish (s : State) (v : Bool) (k : ResultKind) (d : TimeoutDiag)
    (f : BitVec 40) (a : Nat) : (s.publish v k d f a).fetch = s.fetch := rfl

@[simp] theorem fetch_latchRequest (s : State) : s.latchRequest.fetch = s.fetch := rfl

@[simp] theorem fetch_advance (s t : State) : (advance s t).fetch = t.fetch := rfl

@[simp] theorem fetch_resetEdge (s : State) : (resetEdge s).fetch = .idle :=
  decodeCode_encode .idle

end Machine

end Sys2Proof
end

