-- ==== Sys2Proof/Laws/Ops.lean ====
section
/-!
SUPPORT. One lemma for each shared operation that says everything it can do. The provers cite these and do
not unfold the operation.
-/

namespace Sys2Proof.Machine

/-- A value that fits is written whole. -/
theorem narrow_of_lt {w n : Nat} (h : n < 2 ^ w) : narrow w n = n := Nat.mod_eq_of_lt h

/-- What a register of `w` bits holds fits it. -/
theorem narrow_lt (w n : Nat) : narrow w n < 2 ^ w := Nat.mod_lt _ (Nat.two_pow_pos w)

@[simp] theorem narrow_zero (w : Nat) : narrow w 0 = 0 := Nat.zero_mod _

/-- `Fail` retries through COOLDOWN, or reports (44_retry R250). -/
theorem fail_cases (s : State) (k : ResultKind) (d : TimeoutDiag) :
    (s.attempt < s.maxRetries ∧ s.fail k d = s.goto .cooldown) ∨
    (¬ s.attempt < s.maxRetries ∧ s.fail k d = s.complete k d 0#40) := by
  unfold State.fail
  split
  · exact .inl ⟨‹_›, rfl⟩
  · exact .inr ⟨‹_›, rfl⟩

/-- `Hold` requests, moves on, or waits (41_sequencer R161). -/
theorem hold_cases (s : State) (us : Nat) (next : Instr) (act : State → State) :
    (s.dlyPend = false ∧
      s.hold us next act = { s.drive .nop (some us) with dlyPend := true }) ∨
    (s.dlyPend = true ∧ s.inp.dlyDone = true ∧
      s.hold us next act = (act { s.drive .nop none with dlyPend := false }).goto next) ∨
    (s.dlyPend = true ∧ s.inp.dlyDone = false ∧ s.hold us next act = s.drive .nop none) := by
  unfold State.hold
  cases hp : s.dlyPend <;> cases hd : s.inp.dlyDone <;> simp

/-- `SeekStep` sees its target, spends its last miss, or counts a miss (40_sampler R141). -/
theorem seekStep_cases (s : State) (target : Level) (e : Instr) (d : TimeoutDiag) :
    (s.inp.gpioLevel = target ∧ s.seekStep target e d = (s.drive .readLevel none).goto e) ∨
    (s.inp.gpioLevel ≠ target ∧ s.cnt + 1 = s.params.pAckTimeout ∧
      s.seekStep target e d =
        ((s.drive .readLevel none).setCnt (s.cnt + 1)).fail .timeout d) ∨
    (s.inp.gpioLevel ≠ target ∧ s.cnt + 1 ≠ s.params.pAckTimeout ∧
      s.seekStep target e d = (s.drive .readLevel none).setCnt (s.cnt + 1)) := by
  unfold State.seekStep State.lineLevel
  by_cases hl : s.inp.gpioLevel = target
  · exact .inl ⟨hl, if_pos hl⟩
  · by_cases hc : s.cnt + 1 = s.params.pAckTimeout
    · exact .inr (.inl ⟨hl, hc, by rw [if_neg hl, if_pos hc]⟩)
    · exact .inr (.inr ⟨hl, hc, by rw [if_neg hl, if_neg hc]⟩)

/-- `ExitStep` waits, or moves on (40_sampler R142). -/
theorem exitStep_cases (s : State) (target : Level) (next : Instr) (act : State → State) :
    (s.inp.gpioLevel = target ∧ s.exitStep target next act = s.drive .readLevel none) ∨
    (s.inp.gpioLevel ≠ target ∧ s.exitStep target next act =
      (act ((s.drive .readLevel none).setCnt 0)).goto next) := by
  unfold State.exitStep State.lineLevel
  by_cases hl : s.inp.gpioLevel = target
  · exact .inl ⟨hl, if_pos hl⟩
  · exact .inr ⟨hl, if_neg hl⟩

/-- The end of a measurement answers a next state exactly when the entry exists (40_sampler R143). -/
theorem record_eq_next {s t : State} {j v : Nat} {f : State → State} (h : s.record j v f = .next t) :
    ∃ hj : j < 80,
      t = f { s.setCnt 0 with trace := s.trace.set j (narrow s.params.wCnt v) hj } := by
  unfold State.record at h
  split at h
  · next hj => exact ⟨hj, by injection h with h; exact h.symm⟩
  · cases h

/-- `CountStep` counts on, or ends its measurement at the cap or at a change (40_sampler R143). -/
theorem countStep_cases {s t : State} {l : Level} {j : Nat} {f : State → State}
    (h : s.countStep l j f = .next t) :
    (s.inp.gpioLevel = l ∧ s.cnt + 1 ≠ s.params.pCap ∧
      t = (s.drive .readLevel none).setCnt (s.cnt + 1)) ∨
    (∃ v, ((s.inp.gpioLevel = l ∧ s.cnt + 1 = s.params.pCap ∧ v = s.params.pCap) ∨
        (s.inp.gpioLevel ≠ l ∧ v = s.cnt)) ∧
      ∃ hj : j < 80, t = f { (s.drive .readLevel none).setCnt 0 with
        trace := s.trace.set j (narrow s.params.wCnt v) hj }) := by
  unfold State.countStep State.lineLevel at h
  by_cases hl : s.inp.gpioLevel = l
  · by_cases hc : s.cnt + 1 = s.params.pCap
    · rw [if_pos hl, if_pos hc] at h
      exact .inr ⟨_, .inl ⟨hl, hc, rfl⟩, record_eq_next h⟩
    · rw [if_pos hl, if_neg hc] at h
      injection h with h
      exact .inl ⟨hl, hc, h.symm⟩
  · rw [if_neg hl] at h
    exact .inr ⟨_, .inr ⟨hl, rfl⟩, record_eq_next h⟩

/-- SAMPLE_HIGH's move: to DECODE with `bi` kept, or to the next bit (41_sequencer R176). -/
theorem nextBit_cases (s : State) :
    (s.bi = 39#6 ∧ s.nextBit = s.goto .decode) ∨
    (s.bi ≠ 39#6 ∧ s.nextBit = { s with bi := s.bi + 1#6 }.goto .sampleLow) := by
  unfold State.nextBit
  by_cases h : s.bi = 39#6
  · exact .inl ⟨h, if_pos h⟩
  · exact .inr ⟨h, if_neg h⟩

/-- IDLE waits, accepts, or reports that the driver is not ready (41_sequencer R162). -/
theorem execIdle_cases (s : State) :
    (s.inp.req = false ∧ execIdle s = .next (s.drive .nop none)) ∨
    (s.inp.req = true ∧ s.inp.gpioReady = true ∧ execIdle s =
      .next (((s.drive .nop none).latchRequest.publish false .ok .none 0#40 0).goto .hsCfgOut)) ∨
    (s.inp.req = true ∧ s.inp.gpioReady = false ∧ execIdle s =
      .next ((s.drive .nop none).latchRequest.publish true .driverInitFailure .none 0#40 0)) := by
  unfold execIdle
  cases hr : s.inp.req <;> cases hg : s.inp.gpioReady <;> simp

/-- DECODE stalls, completes, or mismatches (42_decoder R204). -/
theorem execDecode_cases (s : State) :
    (s.hasSentinel = true ∧
      execDecode s = .next ((s.drive .nop none).fail .timeout .sampleStall)) ∨
    (s.hasSentinel = false ∧ checksum (sliceFrame s.trace) = (sliceFrame s.trace)[4] ∧
      execDecode s = .next ({ s.drive .nop none with frame := sliceFrame s.trace }.complete
        .ok .none (frameWord (sliceFrame s.trace)))) ∨
    (s.hasSentinel = false ∧ checksum (sliceFrame s.trace) ≠ (sliceFrame s.trace)[4] ∧
      execDecode s = .next ({ s.drive .nop none with frame := sliceFrame s.trace }.fail
        .checksumMismatch .none)) := by
  unfold execDecode
  cases hs : s.hasSentinel
  · by_cases hc : checksum (sliceFrame s.trace) = (sliceFrame s.trace)[4]
    · exact .inr (.inl ⟨rfl, hc, by simp [hc]⟩)
    · exact .inr (.inr ⟨rfl, hc, by simp [hc]⟩)
  · exact .inl ⟨rfl, by simp⟩

/-- The cap check finds a sentinel exactly when an entry equals the cap (42_decoder R204). -/
theorem hasSentinel_iff (s : State) :
    s.hasSentinel = true ↔ ∃ (j : Nat) (h : j < 80), s.trace[j] = s.params.pCap := by
  simp only [State.hasSentinel, List.any_eq_true, beq_iff_eq]
  constructor
  · rintro ⟨v, hv, rfl⟩
    obtain ⟨j, hj, hjv⟩ := List.mem_iff_getElem.mp hv
    exact ⟨j, by simpa using hj, by simpa using hjv⟩
  · rintro ⟨j, hj, hjv⟩
    exact ⟨_, by simp, hjv⟩

/-- A DELAY answer, in its three cases (30_encoding R113, 60_exceptions R294). -/
theorem delayAnswer_true_iff (before after done draw : Bool) :
    delayAnswer before after done draw = true ↔
      ¬ (before = true ∧ after = false) ∧ (done = true ∨ (after = true ∧ draw = true)) := by
  cases before <;> cases after <;> cases done <;> cases draw <;> decide

end Sys2Proof.Machine
end

