-- ==== Sys2Proof/Laws/Move.lean ====
section
/-!
SUPPORT. Everything an operation can do, said once: `Move s i t` has one constructor for each branch of the
rule of each control state, with its condition and its whole next state, and `exec_move` says that whatever
`exec` answers is one of them. Rules about the whole machine follow by cases on it.
-/

namespace Sys2Proof.Machine

open Sys2Proof

/-- What ends a measurement of `l`, and the value it records: the cap, or a change (40_sampler R143). -/
def Records (s : State) (l : Level) (v : Nat) : Prop :=
  (s.inp.gpioLevel = l ∧ s.cnt + 1 = s.params.pCap ∧ v = s.params.pCap) ∨
    (s.inp.gpioLevel ≠ l ∧ v = s.cnt)

/-- The branches of the sixteen rules. -/
inductive Move (s : State) : Instr → State → Prop where
  | idleWait (hr : s.inp.req = false) : Move s .idle { s with out := .quiet }
  | idleAccept (hr : s.inp.req = true) (hg : s.inp.gpioReady = true) :
      Move s .idle
        { s with
          out := .quiet, pin := s.reqPin, maxRetries := s.reqMaxRetries, attempt := 0
          resValid := false, resStatus := .ok, resTdiag := .none, resFrame := 0#40, resAttempts := 0
          st := encode .hsCfgOut }
  | idleNotReady (hr : s.inp.req = true) (hg : s.inp.gpioReady = false) :
      Move s .idle
        { s with
          out := .quiet, pin := s.reqPin, maxRetries := s.reqMaxRetries, attempt := 0
          resValid := true, resStatus := .driverInitFailure, resTdiag := .none, resFrame := 0#40
          resAttempts := 0 }
  | cfgOut : Move s .hsCfgOut { s with out := ⟨.cfgOutput, none⟩, st := encode .hsDriveLow }
  | driveLow : Move s .hsDriveLow { s with out := ⟨.writeLow, none⟩, st := encode .hsHoldLow }
  | driveHigh : Move s .hsDriveHigh { s with out := ⟨.writeHigh, none⟩, st := encode .hsHoldHigh }
  | cfgIn : Move s .hsCfgIn { s with out := ⟨.cfgInput, none⟩, st := encode .hsPullup }
  | pullup : Move s .hsPullup { s with out := ⟨.setPullUp, none⟩, cnt := 0, st := encode .acklSeek }
  | lowRequest (hp : s.dlyPend = false) :
      Move s .hsHoldLow { s with out := ⟨.nop, some s.params.pTStartLowUs⟩, dlyPend := true }
  | lowDone (hp : s.dlyPend = true) (hd : s.inp.dlyDone = true) :
      Move s .hsHoldLow { s with out := .quiet, dlyPend := false, st := encode .hsDriveHigh }
  | lowWait (hp : s.dlyPend = true) (hd : s.inp.dlyDone = false) :
      Move s .hsHoldLow { s with out := .quiet }
  | highRequest (hp : s.dlyPend = false) :
      Move s .hsHoldHigh { s with out := ⟨.nop, some s.params.pTReleaseUs⟩, dlyPend := true }
  | highDone (hp : s.dlyPend = true) (hd : s.inp.dlyDone = true) :
      Move s .hsHoldHigh { s with out := .quiet, dlyPend := false, st := encode .hsCfgIn }
  | highWait (hp : s.dlyPend = true) (hd : s.inp.dlyDone = false) :
      Move s .hsHoldHigh { s with out := .quiet }
  | coolRequest (hp : s.dlyPend = false) :
      Move s .cooldown { s with out := ⟨.nop, some s.params.pTCooldownUs⟩, dlyPend := true }
  | coolDone (hp : s.dlyPend = true) (hd : s.inp.dlyDone = true) :
      Move s .cooldown
        { s with
          out := .quiet, dlyPend := false, attempt := narrow s.params.wRetry (s.attempt + 1)
          st := encode .hsCfgOut }
  | coolWait (hp : s.dlyPend = true) (hd : s.inp.dlyDone = false) :
      Move s .cooldown { s with out := .quiet }
  | acklHit (hl : s.inp.gpioLevel = .low) :
      Move s .acklSeek { s with out := ⟨.readLevel, none⟩, st := encode .acklExit }
  | acklRetry (hl : s.inp.gpioLevel = .high) (hc : s.cnt + 1 = s.params.pAckTimeout)
      (ha : s.attempt < s.maxRetries) :
      Move s .acklSeek
        { s with
          out := ⟨.readLevel, none⟩, cnt := narrow s.params.wCnt (s.cnt + 1), st := encode .cooldown }
  | acklReport (hl : s.inp.gpioLevel = .high) (hc : s.cnt + 1 = s.params.pAckTimeout)
      (ha : ¬ s.attempt < s.maxRetries) :
      Move s .acklSeek
        { s with
          out := ⟨.readLevel, none⟩, cnt := narrow s.params.wCnt (s.cnt + 1), st := encode .idle
          resValid := true, resStatus := .timeout, resTdiag := .noAckLow, resFrame := 0#40
          resAttempts := s.attempt }
  | acklMiss (hl : s.inp.gpioLevel = .high) (hc : s.cnt + 1 ≠ s.params.pAckTimeout) :
      Move s .acklSeek
        { s with out := ⟨.readLevel, none⟩, cnt := narrow s.params.wCnt (s.cnt + 1) }
  | ackhHit (hl : s.inp.gpioLevel = .high) :
      Move s .ackhSeek { s with out := ⟨.readLevel, none⟩, st := encode .ackhExit }
  | ackhRetry (hl : s.inp.gpioLevel = .low) (hc : s.cnt + 1 = s.params.pAckTimeout)
      (ha : s.attempt < s.maxRetries) :
      Move s .ackhSeek
        { s with
          out := ⟨.readLevel, none⟩, cnt := narrow s.params.wCnt (s.cnt + 1), st := encode .cooldown }
  | ackhReport (hl : s.inp.gpioLevel = .low) (hc : s.cnt + 1 = s.params.pAckTimeout)
      (ha : ¬ s.attempt < s.maxRetries) :
      Move s .ackhSeek
        { s with
          out := ⟨.readLevel, none⟩, cnt := narrow s.params.wCnt (s.cnt + 1), st := encode .idle
          resValid := true, resStatus := .timeout, resTdiag := .noAckHigh, resFrame := 0#40
          resAttempts := s.attempt }
  | ackhMiss (hl : s.inp.gpioLevel = .low) (hc : s.cnt + 1 ≠ s.params.pAckTimeout) :
      Move s .ackhSeek
        { s with out := ⟨.readLevel, none⟩, cnt := narrow s.params.wCnt (s.cnt + 1) }
  | acklStay (hl : s.inp.gpioLevel = .low) : Move s .acklExit { s with out := ⟨.readLevel, none⟩ }
  | acklLeave (hl : s.inp.gpioLevel = .high) :
      Move s .acklExit { s with out := ⟨.readLevel, none⟩, cnt := 0, st := encode .ackhSeek }
  | ackhStay (hl : s.inp.gpioLevel = .high) : Move s .ackhExit { s with out := ⟨.readLevel, none⟩ }
  | ackhLeave (hl : s.inp.gpioLevel = .low) :
      Move s .ackhExit
        { s with out := ⟨.readLevel, none⟩, cnt := 0, bi := 0#6, st := encode .sampleLow }
  | lowCount (hl : s.inp.gpioLevel = .low) (hc : s.cnt + 1 ≠ s.params.pCap) :
      Move s .sampleLow
        { s with out := ⟨.readLevel, none⟩, cnt := narrow s.params.wCnt (s.cnt + 1) }
  | lowRecord (v : Nat) (hv : Records s .low v) (hj : s.lowIndex < 80) :
      Move s .sampleLow
        { s with
          out := ⟨.readLevel, none⟩, cnt := 0, st := encode .sampleHigh
          trace := s.trace.set s.lowIndex (narrow s.params.wCnt v) hj }
  | highCount (hl : s.inp.gpioLevel = .high) (hc : s.cnt + 1 ≠ s.params.pCap) :
      Move s .sampleHigh
        { s with out := ⟨.readLevel, none⟩, cnt := narrow s.params.wCnt (s.cnt + 1) }
  | highRecord (v : Nat) (hv : Records s .high v) (hj : s.highIndex < 80) (hb : s.bi ≠ 39#6) :
      Move s .sampleHigh
        { s with
          out := ⟨.readLevel, none⟩, cnt := 0, st := encode .sampleLow, bi := s.bi + 1#6
          trace := s.trace.set s.highIndex (narrow s.params.wCnt v) hj }
  | lastRecord (v : Nat) (hv : Records s .high v) (hj : s.highIndex < 80) (hb : s.bi = 39#6) :
      Move s .sampleHigh
        { s with
          out := ⟨.readLevel, none⟩, cnt := 0, st := encode .decode
          trace := s.trace.set s.highIndex (narrow s.params.wCnt v) hj }
  | stallRetry (hs : s.hasSentinel = true) (ha : s.attempt < s.maxRetries) :
      Move s .decode { s with out := .quiet, st := encode .cooldown }
  | stallReport (hs : s.hasSentinel = true) (ha : ¬ s.attempt < s.maxRetries) :
      Move s .decode
        { s with
          out := .quiet, st := encode .idle
          resValid := true, resStatus := .timeout, resTdiag := .sampleStall, resFrame := 0#40
          resAttempts := s.attempt }
  | decodeOk (hs : s.hasSentinel = false)
      (hc : checksum (sliceFrame s.trace) = (sliceFrame s.trace)[4]) :
      Move s .decode
        { s with
          out := .quiet, frame := sliceFrame s.trace, st := encode .idle
          resValid := true, resStatus := .ok, resTdiag := .none
          resFrame := frameWord (sliceFrame s.trace), resAttempts := s.attempt }
  | mismatchRetry (hs : s.hasSentinel = false)
      (hc : checksum (sliceFrame s.trace) ≠ (sliceFrame s.trace)[4]) (ha : s.attempt < s.maxRetries) :
      Move s .decode
        { s with out := .quiet, frame := sliceFrame s.trace, st := encode .cooldown }
  | mismatchReport (hs : s.hasSentinel = false)
      (hc : checksum (sliceFrame s.trace) ≠ (sliceFrame s.trace)[4])
      (ha : ¬ s.attempt < s.maxRetries) :
      Move s .decode
        { s with
          out := .quiet, frame := sliceFrame s.trace, st := encode .idle
          resValid := true, resStatus := .checksumMismatch, resTdiag := .none, resFrame := 0#40
          resAttempts := s.attempt }

theorem not_low {l : Level} (h : l ≠ .low) : l = .high := by cases l <;> simp_all
theorem not_high {l : Level} (h : l ≠ .high) : l = .low := by cases l <;> simp_all

/-- Writing 0 to `cnt`. -/
theorem setCnt_zero (s : State) : s.setCnt 0 = { s with cnt := 0 } := by
  unfold State.setCnt; rw [narrow_zero]

/-- Whatever an operation answers is a branch of its rule. -/
theorem exec_move {i : Instr} {s t : State} (h : exec i s = .next t) : Move s i t := by
  cases i with
  | idle =>
    change execIdle s = .next t at h
    rcases execIdle_cases s with ⟨hr, e⟩ | ⟨hr, hg, e⟩ | ⟨hr, hg, e⟩ <;>
      (rw [e] at h; injection h with h; subst h)
    · exact .idleWait hr
    · exact .idleAccept hr hg
    · exact .idleNotReady hr hg
  | hsCfgOut => injection h with h; subst h; exact .cfgOut
  | hsDriveLow => injection h with h; subst h; exact .driveLow
  | hsDriveHigh => injection h with h; subst h; exact .driveHigh
  | hsCfgIn => injection h with h; subst h; exact .cfgIn
  | hsPullup =>
    injection h with h; subst h
    rw [setCnt_zero]; exact .pullup
  | hsHoldLow =>
    injection h with h; subst h
    rcases hold_cases s s.params.pTStartLowUs .hsDriveHigh id with ⟨hp, e⟩ | ⟨hp, hd, e⟩ | ⟨hp, hd, e⟩ <;>
      rw [e]
    exacts [.lowRequest hp, .lowDone hp hd, .lowWait hp hd]
  | hsHoldHigh =>
    injection h with h; subst h
    rcases hold_cases s s.params.pTReleaseUs .hsCfgIn id with ⟨hp, e⟩ | ⟨hp, hd, e⟩ | ⟨hp, hd, e⟩ <;>
      rw [e]
    exacts [.highRequest hp, .highDone hp hd, .highWait hp hd]
  | cooldown =>
    injection h with h; subst h
    rcases hold_cases s s.params.pTCooldownUs .hsCfgOut State.nextAttempt with
      ⟨hp, e⟩ | ⟨hp, hd, e⟩ | ⟨hp, hd, e⟩ <;> rw [e]
    exacts [.coolRequest hp, .coolDone hp hd, .coolWait hp hd]
  | acklSeek =>
    injection h with h; subst h
    rcases seekStep_cases s .low .acklExit .noAckLow with ⟨hl, e⟩ | ⟨hl, hc, e⟩ | ⟨hl, hc, e⟩ <;> rw [e]
    · exact .acklHit hl
    · rcases fail_cases ((s.drive .readLevel none).setCnt (s.cnt + 1)) .timeout .noAckLow with
        ⟨ha, e'⟩ | ⟨ha, e'⟩ <;> rw [e']
      exacts [.acklRetry (not_low hl) hc ha, .acklReport (not_low hl) hc ha]
    · exact .acklMiss (not_low hl) hc
  | ackhSeek =>
    injection h with h; subst h
    rcases seekStep_cases s .high .ackhExit .noAckHigh with ⟨hl, e⟩ | ⟨hl, hc, e⟩ | ⟨hl, hc, e⟩ <;> rw [e]
    · exact .ackhHit hl
    · rcases fail_cases ((s.drive .readLevel none).setCnt (s.cnt + 1)) .timeout .noAckHigh with
        ⟨ha, e'⟩ | ⟨ha, e'⟩ <;> rw [e']
      exacts [.ackhRetry (not_high hl) hc ha, .ackhReport (not_high hl) hc ha]
    · exact .ackhMiss (not_high hl) hc
  | acklExit =>
    injection h with h; subst h
    rcases exitStep_cases s .low .ackhSeek id with ⟨hl, e⟩ | ⟨hl, e⟩ <;> rw [e]
    · exact .acklStay hl
    · rw [setCnt_zero]; exact .acklLeave (not_low hl)
  | ackhExit =>
    injection h with h; subst h
    rcases exitStep_cases s .high .sampleLow (fun t => { t with bi := 0#6 }) with ⟨hl, e⟩ | ⟨hl, e⟩ <;>
      rw [e]
    · exact .ackhStay hl
    · rw [setCnt_zero]; exact .ackhLeave (not_high hl)
  | sampleLow =>
    rcases countStep_cases h with ⟨hl, hc, e⟩ | ⟨v, hv, hj, e⟩ <;> subst e
    · exact .lowCount hl hc
    · rw [setCnt_zero]; exact .lowRecord v hv hj
  | sampleHigh =>
    rcases countStep_cases h with ⟨hl, hc, e⟩ | ⟨v, hv, hj, e⟩ <;> subst e
    · exact .highCount hl hc
    · rw [setCnt_zero]
      rcases nextBit_cases { ({ s.drive .readLevel none with cnt := 0 } : State) with
        trace := s.trace.set s.highIndex (narrow s.params.wCnt v) hj } with ⟨hb, e⟩ | ⟨hb, e⟩ <;> rw [e]
      exacts [.lastRecord v hv hj hb, .highRecord v hv hj hb]
  | decode =>
    change execDecode s = .next t at h
    rcases execDecode_cases s with ⟨hs, e⟩ | ⟨hs, hc, e⟩ | ⟨hs, hc, e⟩ <;>
      (rw [e] at h; injection h with h; subst h)
    · rcases fail_cases (s.drive .nop none) .timeout .sampleStall with ⟨ha, e'⟩ | ⟨ha, e'⟩ <;> rw [e']
      exacts [.stallRetry hs ha, .stallReport hs ha]
    · exact .decodeOk hs hc
    · rcases fail_cases { s.drive .nop none with frame := sliceFrame s.trace }
        .checksumMismatch .none with ⟨ha, e'⟩ | ⟨ha, e'⟩ <;> rw [e']
      exacts [.mismatchRetry hs hc ha, .mismatchReport hs hc ha]

end Sys2Proof.Machine
end

