-- ==== Sys2Proof/Laws/PerInstr.lean ====
section
/-!
SUPPORT. What every control state's code says of it (30_encoding R102), stated per instruction.
-/

namespace Sys2Proof.Laws.CodeStructure

/-- The structure of the codes (30_encoding R102): bit 3 is set exactly in the sampling states, DECODE and
COOLDOWN; bits 3..2 are 10 exactly in the handshake waits; bits 3..1 are 110 exactly in the pulse
measurement. The instruction is well-formed, and its byte reads back as it. -/
def Statement (i : Instr) : Prop :=
  i.WellFormed ∧
  decodeBytes (encodeBytes i) = .ok (i, []) ∧
  ((encode i).getLsbD 3 = true ↔ i.isSampling = true ∨ i = .decode ∨ i = .cooldown) ∧
  ((encode i).extractLsb' 2 2 = 0b10#2 ↔
    i = .acklSeek ∨ i = .acklExit ∨ i = .ackhSeek ∨ i = .ackhExit) ∧
  ((encode i).extractLsb' 1 3 = 0b110#3 ↔ i = .sampleLow ∨ i = .sampleHigh)

theorem idle : Statement .idle := ⟨trivial, rfl, by decide, by decide, by decide⟩
theorem hsCfgOut : Statement .hsCfgOut := ⟨trivial, rfl, by decide, by decide, by decide⟩
theorem hsDriveLow : Statement .hsDriveLow := ⟨trivial, rfl, by decide, by decide, by decide⟩
theorem hsHoldLow : Statement .hsHoldLow := ⟨trivial, rfl, by decide, by decide, by decide⟩
theorem hsDriveHigh : Statement .hsDriveHigh := ⟨trivial, rfl, by decide, by decide, by decide⟩
theorem hsHoldHigh : Statement .hsHoldHigh := ⟨trivial, rfl, by decide, by decide, by decide⟩
theorem hsCfgIn : Statement .hsCfgIn := ⟨trivial, rfl, by decide, by decide, by decide⟩
theorem hsPullup : Statement .hsPullup := ⟨trivial, rfl, by decide, by decide, by decide⟩
theorem acklSeek : Statement .acklSeek := ⟨trivial, rfl, by decide, by decide, by decide⟩
theorem acklExit : Statement .acklExit := ⟨trivial, rfl, by decide, by decide, by decide⟩
theorem ackhSeek : Statement .ackhSeek := ⟨trivial, rfl, by decide, by decide, by decide⟩
theorem ackhExit : Statement .ackhExit := ⟨trivial, rfl, by decide, by decide, by decide⟩
theorem sampleLow : Statement .sampleLow := ⟨trivial, rfl, by decide, by decide, by decide⟩
theorem sampleHigh : Statement .sampleHigh := ⟨trivial, rfl, by decide, by decide, by decide⟩
theorem decode : Statement .decode := ⟨trivial, rfl, by decide, by decide, by decide⟩
theorem cooldown : Statement .cooldown := ⟨trivial, rfl, by decide, by decide, by decide⟩

end Sys2Proof.Laws.CodeStructure
end

