-- ==== Sys2Proof/Laws/Step.lean ====
section
/-!
SUPPORT. Everything one step can do, said once; invariants are derived from it.
-/

namespace Sys2Proof.Machine

/-- A step that answers a next state took the reset, or ran the operation that `st` names. -/
theorem step_cases {s t : State} (h : step s = .next t) :
    s.params.WellFormed ∧
      ((s.inp.rst = true ∧ t = resetEdge s) ∨
        (s.inp.rst = false ∧ ∃ u, exec s.fetch s = .next u ∧ t = advance s u)) := by
  unfold step clockEdge at h
  split at h
  · refine ⟨‹_›, ?_⟩
    cases hr : s.inp.rst
    · rw [hr] at h
      refine .inr ⟨rfl, ?_⟩
      cases he : exec s.fetch s with
      | next u => exact ⟨u, rfl, by simpa [he, afterEdge, eq_comm] using h⟩
      | fault r => cases r
      | refused r => simp [he, afterEdge] at h
    · rw [hr] at h
      exact .inl ⟨rfl, by simpa [eq_comm] using h⟩
  · cases h

/-- With an admitted parameter set and no reset, a step is the operation and then the other agents. -/
theorem step_of_exec {s u : State} (hp : s.params.WellFormed) (hr : s.inp.rst = false)
    (he : exec s.fetch s = .next u) : step s = .next (advance s u) := by
  unfold step clockEdge
  rw [if_pos hp, hr, he]
  rfl

/-- A read after a write of one trace entry (10_state R37). -/
theorem trace_set_get (v : Vector Nat 80) (j k x : Nat) (hj : j < 80) (hk : k < 80) :
    (v.set j x hj)[k] = if j = k then x else v[k] := by
  simp [Vector.getElem_set]

end Sys2Proof.Machine
end

