-- ==== Sys2Proof/Laws/Run.lean ====
section
/-!
SUPPORT. Runs under chosen inputs and plays of a scenario, taken apart into their steps.
-/

namespace Sys2Proof.Machine

open Sys2Proof

/-- One step under given inputs that do not reset is the operation on them, and then the other agents. -/
theorem stepWith_of_exec {s u : State} {x : Config.Inputs} (hp : s.params.WellFormed)
    (hr : x.rst = false) (he : exec s.fetch { s with inp := x } = .next u) :
    stepWith x s = .next (advance { s with inp := x } u) := step_of_exec hp hr he

/-- A run is a run of its first part and then of its second. -/
theorem feed_append {xs ys : List Config.Inputs} {s t : State} (h : feed xs s = .next t) :
    feed (xs ++ ys) s = feed ys t := by
  induction xs generalizing s with
  | nil => cases h; rfl
  | cons x xs ih =>
    simp only [List.cons_append, feed] at h ⊢
    cases hx : stepWith x s with
    | next u => rw [hx] at h; exact ih h
    | fault r => cases r
    | refused r => rw [hx] at h; cases h

/-- A run whose first step answers is the run from that answer. -/
theorem feed_cons {x : Config.Inputs} {xs : List Config.Inputs} {s t : State}
    (h : stepWith x s = .next t) : feed (x :: xs) s = feed xs t := by simp only [feed, h]

/-- The outputs of a run whose first step answers. -/
theorem feedOutputs_cons {x : Config.Inputs} {xs : List Config.Inputs} {s t : State}
    (h : stepWith x s = .next t) : feedOutputs (x :: xs) s = t.out :: feedOutputs xs t := by
  simp only [feedOutputs, h]

/-- A play whose first step answers is the play from that answer. -/
theorem play_succ {c : Scenario} {s t : State} {a b : List Level} {n : Nat}
    (h : c.play1 false s a = some (t, b)) : c.play (n + 1) s a = c.play n t b := by
  simp only [Scenario.play, h]

/-- A play is a play of its first steps and then of the others. -/
theorem play_add {c : Scenario} {s t : State} {a b : List Level} {n : Nat}
    (h : c.play n s a = some (t, b)) (m : Nat) : c.play (n + m) s a = c.play m t b := by
  induction n generalizing s a with
  | zero => cases h; rw [Nat.zero_add]
  | succ n ih =>
    rw [Nat.succ_add]
    simp only [Scenario.play] at h ⊢
    cases h1 : c.play1 false s a with
    | none => rw [h1] at h; cases h
    | some r => rw [h1] at h; exact ih h

end Sys2Proof.Machine
end

