-- ==== Sys2Proof/Laws/Slicer.lean ====
section
/-!
SUPPORT. Where the bits of a packed byte and of a packed frame stand.
-/

namespace Sys2Proof.Machine

open Sys2Proof

/-- Bit `7 - m` of a packed byte is its argument `m` (42_decoder R202). -/
theorem packByte_getLsbD (b0 b1 b2 b3 b4 b5 b6 b7 : Bool) (m : Fin 8) :
    (packByte b0 b1 b2 b3 b4 b5 b6 b7).getLsbD (7 - m) =
      [b0, b1, b2, b3, b4, b5, b6, b7][m] := by
  revert b0 b1 b2 b3 b4 b5 b6 b7 m
  decide +kernel

/-- Bit `39 - k` of a packed frame is bit `7 - k mod 8` of byte `k div 8` (20_memory R77). -/
theorem frameWord_getLsbD (f : Vector Byte 5) (k : Nat) (hk : k < 40) :
    (frameWord f).getLsbD (39 - k) = f[k / 8].getLsbD (7 - k % 8) := by
  simp only [frameWord, BitVec.getLsbD_append]
  interval_cases k <;> rfl

end Sys2Proof.Machine
end

