-- ==== Sys2Proof/Tests/Slice0.lean ====
section
/-!
SUPPORT. Small tests, one step each, with results from the spec's encoding tables and vectors
(95_test_vectors), and for each statement with hypotheses a state that meets them all. The parameters are
those of 95_test_vectors section 0 unless a test says otherwise.
-/

namespace Sys2Proof.Tests

open Sys2Proof Sys2Proof.Machine

/-! ### Well-formedness: one ill-formed term for each check -/

theorem test_wf_vectors : Config.resetParams.WellFormed := by decide
theorem test_wf_cap_zero : ¬ { Config.resetParams with pCap := 0 }.WellFormed := by decide
theorem test_wf_cap_wide : ¬ { Config.resetParams with pCap := 256 }.WellFormed := by decide
theorem test_wf_cap_top : { Config.resetParams with pCap := 255 }.WellFormed := by decide
theorem test_wf_ack_zero : ¬ { Config.resetParams with pAckTimeout := 0 }.WellFormed := by decide
theorem test_wf_ack_wide : ¬ { Config.resetParams with pAckTimeout := 256 }.WellFormed := by decide
theorem test_wf_start_short : ¬ { Config.resetParams with pTStartLowUs := 999 }.WellFormed := by
  decide
theorem test_wf_start_wide : ¬ { Config.resetParams with pTStartLowUs := 65536 }.WellFormed := by
  decide
theorem test_wf_release_wide : ¬ { Config.resetParams with pTReleaseUs := 65536 }.WellFormed := by
  decide
theorem test_wf_cooldown_wide : ¬ { Config.resetParams with pTCooldownUs := 65536 }.WellFormed := by
  decide
theorem test_wf_cnt_zero : ¬ { Config.resetParams with wCnt := 0 }.WidthsPositive := by decide
theorem test_wf_retry_zero : ¬ { Config.resetParams with wRetry := 0 }.WellFormed := by decide
theorem test_wf_pin_zero : ¬ { Config.resetParams with wPin := 0 }.WellFormed := by decide

/-! ### Decoding: words written out from 30_encoding R101 -/

theorem test_word_idle : decodeTableWord 8 0b0000 = some .idle := by decide
theorem test_word_hs_cfg_out : decodeTableWord 8 0b0001 = some .hsCfgOut := by decide
theorem test_word_hs_drive_low : decodeTableWord 8 0b0010 = some .hsDriveLow := by decide
theorem test_word_hs_hold_low : decodeTableWord 8 0b0011 = some .hsHoldLow := by decide
theorem test_word_hs_drive_high : decodeTableWord 8 0b0100 = some .hsDriveHigh := by decide
theorem test_word_hs_hold_high : decodeTableWord 8 0b0101 = some .hsHoldHigh := by decide
theorem test_word_hs_cfg_in : decodeTableWord 8 0b0110 = some .hsCfgIn := by decide
theorem test_word_hs_pullup : decodeTableWord 8 0b0111 = some .hsPullup := by decide
theorem test_word_ackl_seek : decodeTableWord 8 0b1000 = some .acklSeek := by decide
theorem test_word_ackl_exit : decodeTableWord 8 0b1001 = some .acklExit := by decide
theorem test_word_ackh_seek : decodeTableWord 8 0b1010 = some .ackhSeek := by decide
theorem test_word_ackh_exit : decodeTableWord 8 0b1011 = some .ackhExit := by decide
theorem test_word_sample_low : decodeTableWord 8 0b1100 = some .sampleLow := by decide
theorem test_word_sample_high : decodeTableWord 8 0b1101 = some .sampleHigh := by decide
theorem test_word_decode : decodeTableWord 8 0b1110 = some .decode := by decide
theorem test_word_cooldown : decodeTableWord 8 0b1111 = some .cooldown := by decide
theorem test_word_no_byte : decodeBytes [] = .error .noByte := by decide

/-- A word above the four bits of a code names no operation, as a byte and as a table word. -/
theorem test_word_upper_bits : 16 ≤ (0x10#8).toNat ∧ decodeBytes [0x10#8] = .error .upperBitsSet ∧
    16 ≤ (0xFF#8).toNat ∧ decodeBytes [0xFF#8] = .error .upperBitsSet ∧
    decodeTableWord 8 16 = none ∧ decodeTableWord 8 255 = none := by decide

/-- Placing a word makes it the operation of the next step. -/
theorem test_placed_word : (State.reset.withFetchWord 8 0b1110).fetch = .decode := by decide

/-- Codes of the ports' fields: 30_encoding R103, R104, R112, 00_scope R13. -/
theorem test_port_codes :
    ResultKind.code .checksumMismatch = 0b010#3 ∧ ResultKind.code .driverInitFailure = 0b011#3 ∧
    TimeoutDiag.code .noAckHigh = 0b10#2 ∧ TimeoutDiag.code .sampleStall = 0b11#2 ∧
    GpioOp.code .setPullUp = 0b011#3 ∧ GpioOp.code .writeLow = 0b100#3 ∧
    GpioOp.code .readLevel = 0b110#3 ∧ levelBit .high = 1#1 := by decide

/-! ### The states the tests start from -/

/-- The inputs of a step of a hold state. -/
def doneInputs (done : Bool) : Config.Inputs := { readInputs .low with dlyDone := done }

/-- A request at the port. -/
def requestInputs (pin retries : Nat) (ready : Bool) : Config.Inputs :=
  { readInputs .low with req := true, reqPin := pin, reqMaxRetries := retries, gpioReady := ready }

/-- The reset state in a control state of choice, under given inputs. -/
def inState (i : Instr) (x : Config.Inputs) : State :=
  { State.reset with st := encode i, inp := x }

/-- A sampling state with counter and attempt counters of choice, the line at a level. -/
def sampling (i : Instr) (cnt attempt maxRetries : Nat) (l : Level) : State :=
  { inState i (readInputs l) with cnt := cnt, attempt := attempt, maxRetries := maxRetries }

/-- SAMPLE_LOW or SAMPLE_HIGH of a bit. -/
def samplingBit (i : Instr) (bit : BitVec 6) (cnt : Nat) (l : Level) : State :=
  { sampling i cnt 0 0 l with bi := bit }

/-- The entries `2,1` of a 0 bit and `2,4` of a 1 bit for eight bits (95_test_vectors section 0). -/
def byteEntries (b : Byte) : List Nat :=
  [7, 6, 5, 4, 3, 2, 1, 0].flatMap fun j => [2, if b.getLsbD j then 4 else 1]

/-- The trace that a `FRAME` of 95_test_vectors section 0 leaves. -/
def frameTrace (b0 b1 b2 b3 b4 : Byte) : Vector Nat 80 :=
  Vector.ofFn fun j : Fin 80 =>
    (byteEntries b0 ++ byteEntries b1 ++ byteEntries b2 ++ byteEntries b3 ++ byteEntries b4)[j.val]!

/-- DECODE of a trace. -/
def decoding (tr : Vector Nat 80) (attempt maxRetries : Nat) : State :=
  { sampling .decode 0 attempt maxRetries .low with trace := tr, bi := 39#6 }

/-- COOLDOWN in the first of two retries (95_test_vectors RET-5). -/
def cooling (pend done : Bool) : State :=
  { inState .cooldown (doneInputs done) with maxRetries := 2, dlyPend := pend }

/-- The result registers of a published `OK`, 95_test_vectors SEQ-4. -/
def published (x : Config.Inputs) : State :=
  { inState .idle x with
    resValid := true, resFrame := 0x028A010996#40, resAttempts := 2, attempt := 2, maxRetries := 2 }

/-- A fact about the next state that an outcome carries; false of a fault or a refusal. -/
def After (o : Host.Outcome State Fault Refusal) (p : State → Bool) : Bool :=
  match o with
  | .next t => p t
  | .fault _ => false
  | .refused _ => false

/-! ### The instructions -/

/-- SEQ-1 and SEQ-2. -/
theorem test_idle_waits_or_accepts :
    exec .idle (published (readInputs .low)) = .next (published (readInputs .low)) ∧
    After (exec .idle (inState .idle (requestInputs 3 2 true))) (fun t =>
      t.pin == 3 && t.maxRetries == 2 && t.attempt == 0 && !t.resValid && t.st == 0x1#4 && t.busy) :=
  ⟨rfl, by decide⟩

/-- SEQ-3: nothing is driven, and the failure is published at once; SEQ-4: a request clears an old result. -/
theorem test_idle_publishes_and_clears :
    After (exec .idle (inState .idle (requestInputs 3 2 false))) (fun t =>
      t.pin == 3 && t.maxRetries == 2 && t.resValid && t.resStatus.code == 0b011#3 &&
      t.resTdiag.code == 0b00#2 && t.st == 0x0#4 && t.out == .quiet) ∧
    After (exec .idle (published (requestInputs 3 2 true))) (fun t =>
      !t.resValid && t.resFrame == 0#40 && t.resAttempts == 0 && t.st == 0x1#4) := by decide

/-- SEQ-5, event 1. -/
theorem test_hs_cfg_out : After (exec .hsCfgOut (inState .hsCfgOut (doneInputs false))) (fun t =>
    t.out == ⟨.cfgOutput, none⟩ && t.st == 0x2#4) := by decide

/-- SEQ-5, event 2. -/
theorem test_hs_drive_low : After (exec .hsDriveLow (inState .hsDriveLow (doneInputs false))) (fun t =>
    t.out == ⟨.writeLow, none⟩ && t.st == 0x3#4) := by decide

/-- SEQ-5, event 3. -/
theorem test_hs_hold_low_requests :
    After (exec .hsHoldLow (inState .hsHoldLow (doneInputs false))) (fun t =>
      t.out == ⟨.nop, some 1000⟩ && t.dlyPend && t.st == 0x3#4) := by decide

/-- SEQ-5, event 4. -/
theorem test_hs_hold_low_consumes :
    After (exec .hsHoldLow { inState .hsHoldLow (doneInputs true) with dlyPend := true }) (fun t =>
      t.out == .quiet && !t.dlyPend && t.st == 0x4#4) := by decide

/-- SEQ-5, event 5. -/
theorem test_hs_drive_high :
    After (exec .hsDriveHigh (inState .hsDriveHigh (doneInputs false))) (fun t =>
      t.out == ⟨.writeHigh, none⟩ && t.st == 0x5#4) := by decide

/-- SEQ-5, event 6, with the release duration of its own. -/
theorem test_hs_hold_high_requests :
    After (exec .hsHoldHigh { inState .hsHoldHigh (doneInputs false) with
      params := { Config.resetParams with pTReleaseUs := 30 } }) (fun t =>
      t.out == ⟨.nop, some 30⟩ && t.dlyPend && t.st == 0x5#4) := by decide

/-- SEQ-5, event 7. -/
theorem test_hs_hold_high_consumes :
    After (exec .hsHoldHigh { inState .hsHoldHigh (doneInputs true) with dlyPend := true }) (fun t =>
      t.out == .quiet && !t.dlyPend && t.st == 0x6#4) := by decide

/-- SEQ-5, event 8. -/
theorem test_hs_cfg_in : After (exec .hsCfgIn (inState .hsCfgIn (doneInputs false))) (fun t =>
    t.out == ⟨.cfgInput, none⟩ && t.st == 0x7#4) := by decide

/-- SEQ-5, event 9, which arms `cnt`. -/
theorem test_hs_pullup :
    After (exec .hsPullup { inState .hsPullup (doneInputs false) with cnt := 4 }) (fun t =>
      t.out == ⟨.setPullUp, none⟩ && t.cnt == 0 && t.st == 0x8#4) := by decide

/-- SAMP-3, its fourth sample. -/
theorem test_ackl_seek_last_chance : After (exec .acklSeek (sampling .acklSeek 3 0 0 .low)) (fun t =>
    t.cnt == 3 && t.st == 0x9#4) := by decide

/-- SAMP-4, its fourth sample, with no retry (PRG-7). -/
theorem test_ackl_seek_fails : After (exec .acklSeek (sampling .acklSeek 3 0 0 .high)) (fun t =>
    t.cnt == 4 && t.st == 0x0#4 && t.resValid && t.resStatus.code == 0b001#3 &&
    t.resTdiag.code == 0b01#2 && t.resAttempts == 0) := by decide

/-- SAMP-7, its third and fourth samples. -/
theorem test_ackl_exit :
    After (exec .acklExit (sampling .acklExit 2 0 0 .low)) (fun t => t.cnt == 2 && t.st == 0x9#4) ∧
    After (exec .acklExit (sampling .acklExit 2 0 0 .high)) (fun t => t.cnt == 0 && t.st == 0xA#4) := by
  decide

/-- SAMP-6, its first sample, and its last with a retry left. -/
theorem test_ackh_seek_misses :
    After (exec .ackhSeek (sampling .ackhSeek 0 0 1 .low)) (fun t => t.cnt == 1 && t.st == 0xA#4) ∧
    After (exec .ackhSeek (sampling .ackhSeek 3 0 1 .low)) (fun t =>
      t.cnt == 4 && t.st == 0xF#4 && !t.resValid) := by decide

/-- SEQ-7: the last miss with no retry is NO_ACK_HIGH. -/
theorem test_ackh_seek_fails : After (exec .ackhSeek (sampling .ackhSeek 3 0 0 .low)) (fun t =>
    t.st == 0x0#4 && t.resStatus.code == 0b001#3 && t.resTdiag.code == 0b10#2) := by decide

/-- SAMP-8. -/
theorem test_ackh_exit : After (exec .ackhExit (samplingBit .ackhExit 7#6 3 .low)) (fun t =>
    t.cnt == 0 && t.bi == 0#6 && t.st == 0xC#4) := by decide

/-- SAMP-12, its last sample: 7 is recorded, and it is not the sentinel. -/
theorem test_sample_low_records : After (exec .sampleLow (samplingBit .sampleLow 5#6 7 .high)) (fun t =>
    t.trace[10] == 7 && t.trace[11] == 0 && t.cnt == 0 && t.bi == 5#6 && t.st == 0xD#4) := by decide

/-- SAMP-13, its eighth sample: the sentinel. -/
theorem test_sample_low_caps : After (exec .sampleLow (samplingBit .sampleLow 5#6 7 .low)) (fun t =>
    t.trace[10] == 8 && t.cnt == 0 && t.st == 0xD#4) := by decide

/-- SAMP-10, its last sample, for bit 38. -/
theorem test_sample_high_records :
    After (exec .sampleHigh (samplingBit .sampleHigh 38#6 4 .low)) (fun t =>
      t.trace[77] == 4 && t.trace[76] == 0 && t.bi == 39#6 && t.st == 0xC#4) := by decide

/-- SEQ-8: the cap at bit 39 goes to DECODE, and `bi` stays 39. -/
theorem test_sample_high_last_bit :
    After (exec .sampleHigh (samplingBit .sampleHigh 39#6 7 .high)) (fun t =>
      t.trace[79] == 8 && t.cnt == 0 && t.bi == 39#6 && t.st == 0xE#4) := by decide

/-- PRG-1, its last step. -/
theorem test_decode_accepts :
    After (exec .decode (decoding (frameTrace 0x02#8 0x8A#8 0x01#8 0x09#8 0x96#8) 0 0)) (fun t =>
      t.resFrame == 0x028A010996#40 && t.resStatus.code == 0b000#3 && t.resHumRaw == 0x028A#16 &&
      t.resTempRaw == 0x0109#16 && !t.busy) := by decide

/-- DEC-12, with the frame kept and 0 published, and DEC-14, with a sentinel in the last entry alone and
`frame` not written. -/
theorem test_decode_rejects_and_stalls :
    After (exec .decode (decoding (frameTrace 0xFF#8 0x05#8 0x00#8 0x00#8 0x05#8) 0 0)) (fun t =>
      t.frame == #v[0xFF#8, 0x05#8, 0#8, 0#8, 0x05#8] && t.resFrame == 0#40 && t.resValid &&
      t.resStatus.code == 0b010#3) ∧
    After (exec .decode (decoding
      ((frameTrace 0x02#8 0x8A#8 0x01#8 0x09#8 0x96#8).set 79 8) 0 0)) (fun t =>
        t.resStatus.code == 0b001#3 && t.resTdiag.code == 0b11#2 &&
        t.frame == Vector.replicate 5 0#8) := by decide

/-- RET-5, its first step, with a cooldown duration of its own. -/
theorem test_cooldown_requests :
    After (exec .cooldown { cooling false false with
      params := { Config.resetParams with pTCooldownUs := 2000 } }) (fun t =>
      t.out == ⟨.nop, some 2000⟩ && t.dlyPend && t.attempt == 0 && t.st == 0xF#4) := by decide

/-- RET-5, its second step, with `dly_done` at 1 and at 0. -/
theorem test_cooldown_ends :
    After (exec .cooldown (cooling true true)) (fun t =>
      !t.dlyPend && t.attempt == 1 && t.st == 0x1#4) ∧
    After (exec .cooldown (cooling true false)) (fun t =>
      t.dlyPend && t.attempt == 0 && t.st == 0xF#4) := by decide

/-! ### The functions of the decoder and the converter -/

/-- DEC-4: six lanes. -/
theorem test_lanes :
    let tr : Vector Nat 80 := Vector.ofFn fun j : Fin 80 =>
      [0, 0, 0, 1, 2, 1, 2, 4, 7, 0, 0, 7].getD j.val 0
    [sliceBit tr 0, sliceBit tr 1, sliceBit tr 2, sliceBit tr 3, sliceBit tr 4, sliceBit tr 5] =
      [false, true, false, true, false, true] := by decide

/-- DEC-5. -/
theorem test_first_bit_is_bit_seven :
    packByte false false false false false false true false = 0x02#8 := by decide

/-- DEC-6. -/
theorem test_checksum_vectors :
    checksum #v[0x02#8, 0x8A#8, 0x01#8, 0x09#8, 0#8] = 0x96#8 ∧
    checksum #v[0xFF#8, 0x05#8, 0#8, 0#8, 0#8] = 0x04#8 ∧
    checksum #v[0xFF#8, 0xFF#8, 0xFF#8, 0xFF#8, 0#8] = 0xFC#8 := by decide

/-- CONV-9 and CONV-10. -/
theorem test_conversion :
    tenthsBits 0xFFFF#16 = 0x40B9998000000000#64 ∧ tenthsBits 0x8065#16 = 0x40A9ADCCCCCCCCCD#64 := by
  decide

/-- Only a published OK has a Reading (43_converter R235). -/
theorem test_reading :
    (published (readInputs .low)).reading.isSome = true ∧ State.reset.reading = none := by
  decide

/-! ### Resetting -/

/-- RST-1. -/
theorem test_reset_mid_read :
    After (step { inState .hsHoldLow { doneInputs true with rst := true } with
      dlyPend := true, pin := 3 }) (fun t =>
      t.st == 0x0#4 && !t.dlyPend && t.pin == 0 && !t.resValid && t.out == .quiet &&
      !t.inp.dlyDone) := by decide

/-- RST-2. -/
theorem test_reset_discards_result :
    After (step (published { readInputs .low with rst := true })) (fun t =>
      !t.resValid && t.resFrame == 0#40) := by decide

/-! ### A state for the hypotheses of each statement -/

/-- The trace of PRG-1. -/
def goodFrame : Vector Nat 80 := frameTrace 0x02#8 0x8A#8 0x01#8 0x09#8 0x96#8

theorem witness_DecodeAndEncodeAgree :
    Instr.WellFormed .cooldown ∧ 16 ≤ (0x10#8).toNat ∧ (16 ≤ 16 ∧ 16 < 256) ∧ 16 ≤ 255 ∧ 255 < 256 := by
  decide

theorem witness_StateTableCodesAndPrimitives :
    (∃ t, exec .sampleHigh (samplingBit .sampleHigh 39#6 7 .high) = .next t) ∧
    (∃ t, exec .cooldown (cooling true false) = .next t) := ⟨⟨_, rfl⟩, ⟨_, rfl⟩⟩

theorem witness_StepRunsDecodedState :
    Config.resetParams.WellFormed ∧
    (∃ t, (cooling true true).inp.rst = false ∧
      exec (decodeCode (cooling true true).st) (cooling true true) = .next t) ∧
    (samplingBit .sampleLow 63#6 0 .high).inp.rst = false ∧
    exec (decodeCode (samplingBit .sampleLow 63#6 0 .high).st) (samplingBit .sampleLow 63#6 0 .high) =
      .refused .traceIndexUnreachable := ⟨by decide, ⟨_, rfl, rfl⟩, rfl, rfl⟩

/-- Each side of the equivalence holds somewhere. -/
theorem witness_InvalidParametersHaveNoRun :
    step { State.reset with params := { Config.resetParams with pTStartLowUs := 999 } } =
      .refused .invalidParameters ∧
    ∃ t, step State.reset = .next t := ⟨rfl, ⟨_, rfl⟩⟩

theorem witness_ParametersNeverChange :
    (∃ t, step (cooling true true) = .next t) ∧
    ∃ t, step (inState .decode { readInputs .low with rst := true }) = .next t :=
  ⟨⟨_, rfl⟩, ⟨_, rfl⟩⟩

theorem witness_ResetEdgeTakesResetColumn :
    Config.resetParams.WellFormed ∧
    (inState .hsHoldLow { doneInputs true with rst := true }).inp.rst = true := by decide

/-- Parameters at the ends of their ranges. -/
def edgeParams : Config.Params :=
  { Config.resetParams with
    pCap := 1, pAckTimeout := 1, wCnt := 1, wRetry := 1, wPin := 1, wDly := 10 }

theorem witness_ResetStatesMeetInvariant : edgeParams.WellFormed := by decide

/-- A read in its last sample meets the invariant. -/
theorem witness_inv_sampling : (samplingBit .sampleHigh 39#6 7 .high).Inv := by
  constructor <;> decide

/-- The end of a cooldown meets the invariant. -/
theorem witness_inv_cooling : (cooling true true).Inv := by
  constructor <;> decide

/-- The last miss of a seek with no retry left, with `rst` at 0 or 1. -/
def lastMiss (r : Bool) : State :=
  { sampling .acklSeek 3 0 0 .high with inp := { readInputs .high with rst := r } }

/-- It meets the invariant. -/
theorem witness_inv_lastMiss (r : Bool) : (lastMiss r).Inv := by
  cases r <;> constructor <;> decide

theorem witness_EveryStepKeepsInvariant :
    ∃ s t : State, s.Inv ∧ step s = .next t :=
  ⟨_, _, witness_inv_sampling, rfl⟩

theorem witness_InvariantStatesAlwaysStep : ∃ s : State, s.Inv := ⟨_, witness_inv_cooling⟩

/-- The condition at its last index. -/
theorem witness_EveryOperationCompletes :
    (samplingBit .sampleHigh 39#6 7 .high).bi.toNat ≤ 39 ∧
    ∃ t, exec .sampleHigh (samplingBit .sampleHigh 39#6 7 .high) = .next t := ⟨by decide, ⟨_, rfl⟩⟩

/-- The two ends of the range, in both sample states, with a step that is refused and one that counts. -/
theorem witness_RecordingOutsideTraceIsRefused :
    40 ≤ (samplingBit .sampleLow 40#6 0 .high).bi.toNat ∧
    40 ≤ (samplingBit .sampleHigh 63#6 0 .low).bi.toNat ∧
    exec .sampleLow (samplingBit .sampleLow 40#6 0 .high) = .refused .traceIndexUnreachable ∧
    After (exec .sampleLow (samplingBit .sampleLow 63#6 0 .low)) (fun t => t.cnt == 1) ∧
    exec .sampleHigh (samplingBit .sampleHigh 63#6 0 .low) = .refused .traceIndexUnreachable ∧
    exec .sampleHigh (samplingBit .sampleHigh 40#6 7 .high) = .refused .traceIndexUnreachable ∧
    After (exec .sampleHigh (samplingBit .sampleHigh 40#6 0 .high)) (fun t => t.cnt == 1) :=
  ⟨by decide, by decide, rfl, by decide, rfl, rfl, by decide⟩

/-- One state for each clause: reset, not pending, raised and not consumed, consumed, pending. -/
theorem witness_DelayAgentKeepsItsLaw :
    (∃ t, step (lastMiss true) = .next t ∧ (lastMiss true).inp.rst = true) ∧
    (∃ t, step (inState .idle (doneInputs false)) = .next t ∧ t.dlyPend = false) ∧
    (∃ t, step { inState .idle (doneInputs true) with dlyPend := true } = .next t ∧ t.dlyPend = true) ∧
    (∃ t, step (cooling true true) = .next t ∧ t.dlyPend = false) ∧
    (∃ t, step (cooling false false) = .next t ∧ t.dlyPend = true) :=
  ⟨⟨_, rfl, rfl⟩, ⟨_, rfl, rfl⟩, ⟨_, rfl, rfl⟩, ⟨_, rfl, rfl⟩, ⟨_, rfl, rfl⟩⟩

/-- The widest operands, and the three cases of the request. -/
theorem witness_IdleAcceptsOrReports :
    (requestInputs 255 255 true).WellFormed Config.resetParams ∧
    (requestInputs 255 255 false).WellFormed Config.resetParams ∧
    (readInputs .low).WellFormed Config.resetParams := by decide

/-- The last retry of the widest bound. -/
theorem witness_CooldownCountsTheRetry :
    let s := { cooling true true with attempt := 254, maxRetries := 255 }
    s.attempt < s.maxRetries ∧ s.maxRetries < 2 ^ s.params.wRetry := by decide

/-- The last sample of the budget, with the target, and without it with a retry and without one. -/
theorem witness_AckLowSeekStep :
    let s := sampling .acklSeek 3 0 1 .high
    s.params.WellFormed ∧ s.cnt < s.params.pAckTimeout ∧ s.cnt + 1 = s.params.pAckTimeout := by decide

theorem witness_AckHighSeekStep :
    let s := sampling .ackhSeek 3 1 1 .low
    s.params.WellFormed ∧ s.cnt < s.params.pAckTimeout ∧ s.cnt + 1 = s.params.pAckTimeout := by decide

theorem witness_SampleLowStep :
    let s := samplingBit .sampleLow 39#6 7 .low
    s.bi.toNat ≤ 39 ∧ s.params.WellFormed ∧ s.cnt < s.params.pCap ∧ s.cnt + 1 = s.params.pCap := by
  decide

theorem witness_SampleHighStep :
    let s := samplingBit .sampleHigh 39#6 7 .high
    s.bi.toNat ≤ 39 ∧ s.params.WellFormed ∧ s.cnt < s.params.pCap ∧ s.cnt + 1 = s.params.pCap := by
  decide

/-- DEC-14 and DEC-15: the last entry, and the first. -/
theorem witness_SentinelIsATimeout :
    let s := decoding ((goodFrame.set 79 8).set 0 8) 0 0
    s.trace[79] = s.params.pCap ∧ s.trace[0] = s.params.pCap := by decide

theorem witness_DecodeSlicesAndChecks :
    let s := decoding goodFrame 0 0
    let f : Vector Byte 5 := #v[0x02#8, 0x8A#8, 0x01#8, 0x09#8, 0x96#8]
    (∀ (j : Nat) (hj : j < 80), s.trace[j] ≠ s.params.pCap) ∧
    (∀ (k : Nat) (hk : k < 40),
      f[k / 8].getLsbD (7 - k % 8) = decide (s.trace[2 * k] < s.trace[2 * k + 1])) := by
  decide

theorem witness_EveryFrameRoundTrips :
    let s := decoding (frameTrace 0xFF#8 0x05#8 0x00#8 0x00#8 0x04#8) 1 3
    (0x04#8).toNat = ((0xFF#8).toNat + (0x05#8).toNat + (0x00#8).toNat + (0x00#8).toNat) % 256 ∧
    (∀ (j : Nat) (hj : j < 80), s.trace[j] ≠ s.params.pCap) ∧
    (∀ (k : Nat) (hk : k < 40),
      (s.trace[2 * k] < s.trace[2 * k + 1] ↔
        (0xFF#8 ++ 0x05#8 ++ 0x00#8 ++ 0x00#8 ++ 0x04#8).getLsbD (39 - k) = true)) := by
  decide

theorem witness_RawWordsAreFrameSlices :
    (published (readInputs .low)).resFrame = frameWord #v[0x02#8, 0x8A#8, 0x01#8, 0x09#8, 0x96#8] := by
  decide

/-- The least word and the greatest. -/
theorem witness_TenthsRoundToNearestEven : 1#16 ≠ 0#16 ∧ 0xFFFF#16 ≠ 0#16 := by decide

/-- For the three statements of what one operation changes: an operation that changes the trace, one that
publishes, and one that changes no result. -/
theorem witness_RegistersChangeOnlyWhereTabled :
    (∃ t, exec .sampleHigh (samplingBit .sampleHigh 39#6 7 .high) = .next t ∧
      t.resValid = false) ∧
    (∃ t, exec .acklSeek (sampling .acklSeek 3 0 0 .high) = .next t ∧ t.resValid = true) ∧
    (∃ t, exec .cooldown (cooling true true) = .next t ∧ t.attempt = 1) :=
  ⟨⟨_, rfl, rfl⟩, ⟨_, rfl, rfl⟩, ⟨_, rfl, rfl⟩⟩

theorem witness_TraceWritesOneEntry :
    (∃ t, exec .sampleHigh (samplingBit .sampleHigh 39#6 7 .high) = .next t) ∧
    ¬ (Instr.sampleHigh = .sampleLow ∧ 78 = 2 * (39#6).toNat) ∧
    ¬ (Instr.sampleHigh = .sampleHigh ∧ 78 = 2 * (39#6).toNat + 1) := ⟨⟨_, rfl⟩, by decide, by decide⟩

/-- IDLE in its three branches, an operation that keeps the results, and one that publishes. -/
theorem witness_ResultsArePublishedWhole :
    After (exec .idle (inState .idle (readInputs .low))) (fun t => !t.resValid) ∧
    After (exec .idle (published (requestInputs 3 2 true))) (fun t => !t.resValid) ∧
    After (exec .idle (inState .idle (requestInputs 3 2 false))) State.resValid ∧
    After (exec .cooldown (cooling true true)) (fun t => !t.resValid) ∧
    (sampling .acklSeek 3 0 0 .high).fetch ≠ .idle ∧
    After (exec .acklSeek (sampling .acklSeek 3 0 0 .high)) (fun t =>
      t.fetch == .idle && t.resStatus == .timeout) := by decide

/-- A published result of each of the six causes. -/
theorem witness_PublishedResultHasItsCause :
    After (exec .idle (inState .idle (requestInputs 3 2 false))) State.resValid ∧
    After (exec .acklSeek (sampling .acklSeek 3 0 0 .high)) State.resValid ∧
    After (exec .ackhSeek (sampling .ackhSeek 3 0 0 .low)) State.resValid ∧
    After (exec .decode (decoding (goodFrame.set 79 8) 0 0)) State.resValid ∧
    After (exec .decode (decoding (goodFrame.set 79 4) 0 0)) State.resValid ∧
    After (exec .decode (decoding goodFrame 0 0)) State.resValid ∧
    State.reset.resValid = false := by decide

/-- An operation of each kind of input, with the inputs it does not read changed. -/
theorem witness_OperationsReadOnlyTheirInputs :
    (∃ t, exec .idle (inState .idle (requestInputs 3 2 true)) = .next t) ∧
    (∃ t, exec .cooldown (cooling true true) = .next t) ∧
    (∃ t, exec .acklSeek (sampling .acklSeek 3 0 0 .high) = .next t) ∧
    ({ requestInputs 9 9 false with dlyDone := true } : Config.Inputs).dlyDone =
      (cooling true true).inp.dlyDone ∧
    ({ requestInputs 9 9 false with gpioLevel := .high } : Config.Inputs).gpioLevel =
      (sampling .acklSeek 3 0 0 .high).inp.gpioLevel :=
  ⟨⟨_, rfl⟩, ⟨_, rfl⟩, ⟨_, rfl⟩, rfl, rfl⟩

theorem witness_DelayRequestsComeFromHoldStates :
    ∃ t, exec .cooldown (cooling false false) = .next t ∧ t.out.dlyReq = some 0 := ⟨_, rfl, rfl⟩

theorem witness_ReservedCodesAreNeverDriven : ∃ s : State, s.Inv := ⟨_, witness_inv_sampling⟩

/-- Both ends of a read: a published failure, and `rst`. -/
theorem witness_ReadsEndOnlyByPublishing :
    (∃ t, step (lastMiss false) = .next t ∧ t.fetch = .idle) ∧
    (∃ t, step (lastMiss true) = .next t ∧ t.fetch = .idle) ∧
    ∀ r, (lastMiss r).Inv ∧ (lastMiss r).fetch ≠ .idle ∧ (lastMiss r).inp.rst = r :=
  ⟨⟨_, rfl, rfl⟩, ⟨_, rfl, rfl⟩, fun r => ⟨witness_inv_lastMiss r, by cases r <;> decide, rfl⟩⟩

theorem witness_AttemptMovesOnlyAtCooldownEnd :
    ∃ s t : State, s.Inv ∧ s.inp.rst = false ∧ s.fetch ≠ .idle ∧ step s = .next t ∧ t.attempt = 1 :=
  ⟨_, _, witness_inv_cooling, rfl, by decide, rfl, rfl⟩

/-- From each state that can fail an attempt. -/
theorem witness_RetriedFailureSavesNothing :
    After (exec .acklSeek (sampling .acklSeek 3 0 1 .high)) (fun t => t.fetch == .cooldown) ∧
    After (exec .ackhSeek (sampling .ackhSeek 3 0 1 .low)) (fun t => t.fetch == .cooldown) ∧
    After (exec .decode (decoding (goodFrame.set 79 4) 0 1)) (fun t => t.fetch == .cooldown) ∧
    (sampling .acklSeek 3 0 1 .high).fetch ≠ .cooldown := by decide

theorem witness_StartSignalTakesNineSteps :
    let s := inState .hsCfgOut (doneInputs false)
    let x := doneInputs true
    s.params.WellFormed ∧ s.fetch = .hsCfgOut ∧ s.dlyPend = false ∧
    (∀ y ∈ [x, x, x, x, x, x, x, x, x], y.rst = false) ∧ x.dlyDone = true := by decide

/-- The last sample that a budget of 4 allows, SAMP-3, for each seek. -/
theorem witness_SeekSucceedsWithinBudget :
    let s := inState .acklSeek (readInputs .low)
    let s' := inState .ackhSeek (readInputs .low)
    s.params.WellFormed ∧ s.cnt = 0 ∧ s'.cnt = 0 ∧
    (List.replicate 3 (readInputs .high)).length < s.params.pAckTimeout ∧
    s.fetch = .acklSeek ∧ s'.fetch = .ackhSeek ∧
    (∀ x ∈ List.replicate 3 (readInputs .high), Sees x .high) ∧ Sees (readInputs .low) .low ∧
    (∀ x ∈ List.replicate 3 (readInputs .low), Sees x .low) ∧ Sees (readInputs .high) .high := by
  simp only [Sees]; decide

/-- SAMP-4 and SAMP-6, with a retry left and without one. -/
theorem witness_SeekFailsAtBudget :
    let s := sampling .acklSeek 0 0 1 .high
    let s' := sampling .ackhSeek 0 1 1 .low
    s.params.WellFormed ∧ s.cnt = 0 ∧ s'.params.WellFormed ∧ s'.cnt = 0 ∧
    (List.replicate 4 (readInputs .high)).length = s.params.pAckTimeout ∧
    (List.replicate 4 (readInputs .low)).length = s'.params.pAckTimeout ∧
    s.fetch = .acklSeek ∧ s'.fetch = .ackhSeek ∧ s.attempt < s.maxRetries ∧
    ¬ s'.attempt < s'.maxRetries ∧
    (∀ x ∈ List.replicate 4 (readInputs .high), Sees x .high) ∧
    (∀ x ∈ List.replicate 4 (readInputs .low), Sees x .low) := by
  simp only [Sees]; decide

theorem witness_ExitWaitsCanLastForAnyTime :
    (inState .acklExit (readInputs .low)).params.WellFormed ∧
    (inState .acklExit (readInputs .low)).fetch = .acklExit ∧
    (inState .ackhExit (readInputs .low)).fetch = .ackhExit ∧
    (∀ x ∈ List.replicate 9 (readInputs .low), Sees x .low) ∧
    (∀ x ∈ List.replicate 9 (readInputs .high), Sees x .high) := by
  simp only [Sees]; decide

/-- SAMP-12 and SAMP-13, in the last bit. -/
theorem witness_LowPhaseRecordsItsRun :
    let s := samplingBit .sampleLow 39#6 0 .low
    s.bi.toNat ≤ 39 ∧ s.params.WellFormed ∧ s.fetch = .sampleLow ∧ s.cnt = 0 ∧
    (∀ x ∈ List.replicate 8 (readInputs .low), Sees x .low) ∧ Sees (readInputs .high) .high ∧
    (List.replicate 7 (readInputs .low)).length < s.params.pCap ∧
    (List.replicate 8 (readInputs .low)).length = s.params.pCap := by
  simp only [Sees]; decide

/-- Every phase at the cap, and every phase at 0. -/
theorem witness_SamplingCapturesEveryPhase :
    let s := samplingBit .sampleLow 0#6 0 .low
    s.params.WellFormed ∧ s.fetch = .sampleLow ∧ s.bi = 0#6 ∧ s.cnt = 0 ∧
    (∀ _k : Fin 40, 8 ≤ s.params.pCap) ∧ (∀ _k : Fin 40, 0 ≤ s.params.pCap) := by decide

/-- SAMP-13: a phase at the cap reads the cap's samples and no other; SAMP-12: one below it, one more. -/
theorem test_phase_inputs :
    phaseInputs 8 .low .high 8 = List.replicate 8 (readInputs .low) ∧
    phaseInputs 8 .low .high 7 = List.replicate 7 (readInputs .low) ++ [readInputs .high] := by decide

/-- A line that stays LOW. -/
theorem witness_SamplingReachesDecode :
    let s := samplingBit .sampleLow 0#6 0 .low
    s.params.WellFormed ∧ s.fetch = .sampleLow ∧ s.bi = 0#6 ∧ s.cnt = 0 ∧
    (∀ x ∈ List.replicate 640 (readInputs .low), x.rst = false) ∧
    (List.replicate 640 (readInputs .low)).length = 80 * s.params.pCap :=
  ⟨by decide, by decide, rfl, rfl, fun _ h => by rw [List.eq_of_mem_replicate h]; rfl,
    List.length_replicate⟩

/-- RET-3, and the least retry bound. -/
theorem witness_SilentLineExhaustsEveryAttempt (m : Fin 4) :
    let c : Scenario :=
      { params := Config.resetParams, pin := 2, retries := m, ready := true
        line := [(.high, (m + 1) * 4)] }
    c.params.WellFormed ∧ c.pin < 2 ^ c.params.wPin ∧ c.retries < 2 ^ c.params.wRetry ∧
    c.ready = true ∧ c.line = [(.high, (c.retries + 1) * c.params.pAckTimeout)] := by
  revert m; decide

/-- A step that requests a delay, and one that reads the line. -/
theorem witness_GpioAndDelayPortsShowTheStep :
    After (exec .cooldown (cooling false false)) (fun t => t.dlyReqBit == 1#1) ∧
    After (exec .acklSeek (sampling .acklSeek 3 0 0 .high)) (fun t => t.dlyReqBit == 0#1) := by decide

end Sys2Proof.Tests
end

