-- ==== Sys2Proof/Proofs/Scope.lean ====
section
/-!
PROOF. The obligations of 00_scope: which parameter sets have a run, that no step changes them, and that a
state which meets the invariant is never refused.
-/

namespace Sys2Proof.Machine

open Sys2Proof

/-! ### What an operation answers -/

/-- The end of a measurement answers, or there is no entry to write and it is refused by name (93 I14). -/
theorem record_outcome (s : State) (j v : Nat) (f : State → State) :
    (∃ t, s.record j v f = .next t) ∨
      (80 ≤ j ∧ s.record j v f = .refused .traceIndexUnreachable) := by
  unfold State.record
  split
  · exact .inl ⟨_, rfl⟩
  · exact .inr ⟨by omega, rfl⟩

/-- `CountStep` has the outcomes of the recording it may end in, and no other (40_sampler R143). -/
theorem countStep_outcome (s : State) (l : Level) (j : Nat) (f : State → State) :
    (∃ t, s.countStep l j f = .next t) ∨
      (80 ≤ j ∧ s.countStep l j f = .refused .traceIndexUnreachable) := by
  unfold State.countStep
  split
  · split
    · exact record_outcome _ j _ f
    · exact .inl ⟨_, rfl⟩
  · exact record_outcome _ j _ f

/-- The only refusal of an operation is that of a sampling state whose `bi` names no bit (10_state R36,
93 I14). -/
theorem exec_outcome (i : Instr) (s : State) :
    (∃ t, exec i s = .next t) ∨
      ((i = .sampleLow ∨ i = .sampleHigh) ∧ 40 ≤ s.bi.toNat ∧
        exec i s = .refused .traceIndexUnreachable) := by
  cases i with
  | idle => rcases execIdle_cases s with ⟨_, e⟩ | ⟨_, _, e⟩ | ⟨_, _, e⟩ <;> exact .inl ⟨_, e⟩
  | decode => rcases execDecode_cases s with ⟨_, e⟩ | ⟨_, _, e⟩ | ⟨_, _, e⟩ <;> exact .inl ⟨_, e⟩
  | sampleLow =>
    refine (countStep_outcome s .low s.lowIndex _).imp_right fun ⟨hj, e⟩ => ⟨.inl rfl, ?_, e⟩
    unfold State.lowIndex at hj
    omega
  | sampleHigh =>
    refine (countStep_outcome s .high s.highIndex _).imp_right fun ⟨hj, e⟩ => ⟨.inr rfl, ?_, e⟩
    unfold State.highIndex at hj
    omega
  | hsCfgOut | hsDriveLow | hsHoldLow | hsDriveHigh | hsHoldHigh | hsCfgIn | hsPullup
  | acklSeek | acklExit | ackhSeek | ackhExit | cooldown => exact .inl ⟨_, rfl⟩

/-- With a `bi` that names a bit, every operation answers a next state. -/
theorem exec_answers {i : Instr} {s : State} (hb : i = .sampleLow ∨ i = .sampleHigh → s.bi.toNat ≤ 39) :
    ∃ t, exec i s = .next t := by
  rcases exec_outcome i s with h | ⟨hi, hbi, _⟩
  · exact h
  · have := hb hi
    omega

/-! ### One step -/

/-- With an admitted parameter set and `rst = 1`, a step is the reset (30_encoding R114). -/
theorem step_of_rst {s : State} (hp : s.params.WellFormed) (hr : s.inp.rst = true) :
    step s = .next (resetEdge s) := by
  unfold step clockEdge
  rw [if_pos hp, hr]
  rfl

/-- With an admitted parameter set and `rst = 0`, a step answers what the operation does. -/
theorem step_of_not_rst {s : State} (hp : s.params.WellFormed) (hr : s.inp.rst = false) :
    step s = afterEdge s (exec s.fetch s) := by
  unfold step clockEdge
  rw [if_pos hp, hr]
  rfl

/-! ### Which parameter sets have a run -/

/-- A step is refused for its parameters exactly when the set is not admitted (00_scope R7). -/
theorem step_eq_invalidParameters_iff (s : State) :
    step s = .refused .invalidParameters ↔ ¬ s.params.WellFormed := by
  by_cases hp : s.params.WellFormed
  · refine iff_of_false ?_ (not_not.mpr hp)
    cases hr : s.inp.rst with
    | true => rw [step_of_rst hp hr]; exact nofun
    | false =>
      rw [step_of_not_rst hp hr]
      rcases exec_outcome s.fetch s with ⟨t, e⟩ | ⟨-, -, e⟩ <;> (rw [e]; exact nofun)
  · exact iff_of_true (if_neg hp) hp

/-- A delay port with room for the start signal has at least one bit, so R6 need not say so. -/
theorem wDly_pos_of_startLowFits {p : Config.Params} (h : p.StartLowFits) : 1 ≤ p.wDly := by
  obtain ⟨hmin, hmax⟩ := h
  by_contra hw
  rw [show p.wDly = 0 by omega] at hmax
  omega

/-- The constraints of 00_scope R6 as the spec writes them, with inclusive upper bounds. -/
theorem wellFormed_iff_constraints (p : Config.Params) :
    p.WellFormed ↔
      1 ≤ p.pCap ∧ p.pCap ≤ 2 ^ p.wCnt - 1 ∧ 1 ≤ p.pAckTimeout ∧ p.pAckTimeout ≤ 2 ^ p.wCnt - 1 ∧
      1000 ≤ p.pTStartLowUs ∧
      max p.pTStartLowUs (max p.pTReleaseUs p.pTCooldownUs) ≤ 2 ^ p.wDly - 1 ∧
      1 ≤ p.wCnt ∧ 1 ≤ p.wRetry ∧ 1 ≤ p.wPin ∧ 1 ≤ p.wDly := by
  simp only [Nat.le_sub_one_iff_lt (Nat.two_pow_pos _), max_lt_iff]
  constructor
  · rintro ⟨⟨hcap, hcap'⟩, ⟨hack, hack'⟩, hstart, hrel, hcool, hcnt, hretry, hpin⟩
    exact ⟨hcap, hcap', hack, hack', hstart.1, ⟨hstart.2, hrel, hcool⟩, hcnt, hretry, hpin,
      wDly_pos_of_startLowFits hstart⟩
  · rintro ⟨hcap, hcap', hack, hack', hstart, ⟨hstart', hrel, hcool⟩, hcnt, hretry, hpin, -⟩
    exact ⟨⟨hcap, hcap'⟩, ⟨hack, hack'⟩, ⟨hstart, hstart'⟩, hrel, hcool, hcnt, hretry, hpin⟩

/-! ### The parameters along a step -/

/-- No branch of any operation writes the parameters. -/
theorem Move.params_eq {s t : State} {i : Instr} (h : Move s i t) : t.params = s.params := by
  cases h <;> rfl

end Sys2Proof.Machine

namespace Sys2Proof.Proofs

open Sys2Proof.Machine

/-- Settles O5: a step is refused for its parameters exactly when they are not admitted, and the admitted
sets are those of R6. -/
theorem invalidParametersHaveNoRun : Obligations.InvalidParametersHaveNoRun := by
  intro s
  rw [ne_eq, step_eq_invalidParameters_iff, not_not, wellFormed_iff_constraints]

/-- Settles O6: the reset edge carries the parameters over, and no operation and no other agent writes
them. -/
theorem parametersNeverChange : Obligations.ParametersNeverChange := by
  intro s t h
  obtain ⟨-, ⟨-, rfl⟩ | ⟨-, u, hu, rfl⟩⟩ := step_cases h
  · exact resetEdge_params s
  · exact (exec_move hu).params_eq

/-- Settles O10: the invariant admits the parameters and keeps `bi` a bit's number, so neither refusal can
be raised. -/
theorem invariantStatesAlwaysStep : Obligations.InvariantStatesAlwaysStep := by
  intro s hinv
  cases hr : s.inp.rst with
  | false =>
    obtain ⟨u, hu⟩ := exec_answers (i := s.fetch) fun _ => hinv.bi_range
    exact ⟨_, step_of_exec hinv.params_wf hr hu⟩
  | true => exact ⟨resetEdge s, step_of_rst hinv.params_wf hr⟩

end Sys2Proof.Proofs
end

/-!
PROOF. The obligations of 10_state: what every step keeps, where each register changes, and what a
measurement of forty bits leaves in the trace.
-/

namespace Sys2Proof

/-- Every 4-bit code is the code of the state it names (30_encoding R102). -/
@[simp] theorem encode_decodeCode (c : StCode) : encode (decodeCode c) = c := by
  revert c; decide

namespace Config.Params

variable {p : Params}

/-- The cap is at least one sample (00_scope R6). -/
theorem WellFormed.cap_pos (h : p.WellFormed) : 0 < p.pCap := h.1.1

/-- The cap fits `cnt` and a trace entry (00_scope R6). -/
theorem WellFormed.cap_lt (h : p.WellFormed) : p.pCap < 2 ^ p.wCnt := h.1.2

/-- The acknowledge budget is at least one sample (00_scope R6). -/
theorem WellFormed.ack_pos (h : p.WellFormed) : 0 < p.pAckTimeout := h.2.1.1

/-- The acknowledge budget fits `cnt` (00_scope R6). -/
theorem WellFormed.ack_lt (h : p.WellFormed) : p.pAckTimeout < 2 ^ p.wCnt := h.2.1.2

end Config.Params

namespace Machine

/-- `st` names a state exactly when it holds its code. -/
theorem fetch_eq_iff (s : State) (i : Instr) : s.fetch = i ↔ s.st = encode i :=
  ⟨fun h => h ▸ (encode_decodeCode s.st).symm, fun h => by rw [State.fetch, h, decodeCode_encode]⟩

/-! ### Where the registers change -/

section Frame

variable {s t : State} {i : Instr}

/-- The request latches are written in IDLE alone (10_state R32, R33). -/
theorem Move.latches_kept (h : Move s i t) (hi : i ≠ .idle) :
    t.pin = s.pin ∧ t.maxRetries = s.maxRetries := by
  cases h with
  | idleWait | idleAccept | idleNotReady => exact absurd rfl hi
  | _ => exact ⟨rfl, rfl⟩

/-- IDLE clears the attempt counter and the end of COOLDOWN adds one to it (10_state R34). -/
theorem Move.attempt_kept (h : Move s i t) (hi : i ≠ .idle) (hc : i ≠ .cooldown) :
    t.attempt = s.attempt := by
  cases h with
  | idleWait | idleAccept | idleNotReady => exact absurd rfl hi
  | coolRequest | coolDone | coolWait => exact absurd rfl hc
  | _ => rfl

/-- COOLDOWN keeps the attempt counter but at its end, where it adds one and starts the next attempt
(44_retry R251). -/
theorem Move.cooldown_attempt (h : Move s .cooldown t) :
    t.attempt = s.attempt ∨
      (s.dlyPend = true ∧ s.inp.dlyDone = true ∧
        t.attempt = narrow s.params.wRetry (s.attempt + 1) ∧ t.fetch = .hsCfgOut) := by
  cases h with
  | coolDone hp hd => exact .inr ⟨hp, hd, rfl, fetch_mk_encode ..⟩
  | coolRequest | coolWait => exact .inl rfl

/-- HS_PULLUP and the sampling states write `cnt` (10_state R35). -/
theorem Move.cnt_kept (h : Move s i t) (hp : i ≠ .hsPullup) (hs : i.isSampling = false) :
    t.cnt = s.cnt := by
  cases h with
  | pullup => exact absurd rfl hp
  | acklRetry | acklReport | acklMiss | ackhRetry | ackhReport | ackhMiss
  | acklLeave | ackhLeave | lowCount | lowRecord | highCount | highRecord | lastRecord => cases hs
  | _ => rfl

/-- ACKH_EXIT and SAMPLE_HIGH write `bi` (10_state R36). -/
theorem Move.bi_kept (h : Move s i t) (he : i ≠ .ackhExit) (hs : i ≠ .sampleHigh) :
    t.bi = s.bi := by
  cases h with
  | ackhLeave => exact absurd rfl he
  | highRecord => exact absurd rfl hs
  | _ => rfl

/-- An entry keeps its value in every step that is not the recording of its own phase (10_state R37). -/
theorem Move.trace_entry_kept (h : Move s i t) (j : Nat) (hj : j < 80)
    (hl : ¬ (i = .sampleLow ∧ j = s.lowIndex)) (hh : ¬ (i = .sampleHigh ∧ j = s.highIndex)) :
    t.trace[j] = s.trace[j] := by
  cases h with
  | lowRecord => rw [trace_set_get, if_neg fun e => hl ⟨rfl, e.symm⟩]
  | highRecord | lastRecord => rw [trace_set_get, if_neg fun e => hh ⟨rfl, e.symm⟩]
  | _ => rfl

/-- The two sample states write the trace (10_state R37). -/
theorem Move.trace_kept (h : Move s i t) (hl : i ≠ .sampleLow) (hh : i ≠ .sampleHigh) :
    t.trace = s.trace :=
  Vector.ext fun j hj => h.trace_entry_kept j hj (fun e => hl e.1) (fun e => hh e.1)

/-- DECODE writes `frame` (10_state R38). -/
theorem Move.frame_kept (h : Move s i t) (hi : i ≠ .decode) : t.frame = s.frame := by
  cases h with
  | decodeOk | mismatchRetry | mismatchReport => exact absurd rfl hi
  | _ => rfl

/-- The hold states write `dly_pend` (10_state R39). -/
theorem Move.dlyPend_kept (h : Move s i t) (hi : i.isHold = false) : t.dlyPend = s.dlyPend := by
  cases h with
  | lowRequest | lowDone | highRequest | highDone | coolRequest | coolDone => cases hi
  | _ => rfl

/-- The five result registers are written in IDLE and in the three states that can complete a read
(10_state R40 to R44). -/
theorem Move.results_kept (h : Move s i t) (hi : i ≠ .idle) (hl : i ≠ .acklSeek)
    (hh : i ≠ .ackhSeek) (hd : i ≠ .decode) :
    t.resValid = s.resValid ∧ t.resStatus = s.resStatus ∧ t.resTdiag = s.resTdiag ∧
      t.resFrame = s.resFrame ∧ t.resAttempts = s.resAttempts := by
  cases h with
  | idleAccept | idleNotReady => exact absurd rfl hi
  | acklReport => exact absurd rfl hl
  | ackhReport => exact absurd rfl hh
  | stallReport | decodeOk | mismatchReport => exact absurd rfl hd
  | _ => exact ⟨rfl, rfl, rfl, rfl, rfl⟩

/-- No operation writes the inputs or the number of the next draw. -/
theorem Move.inp_tick_eq (h : Move s i t) : t.inp = s.inp ∧ t.tick = s.tick := by
  cases h <;> exact ⟨rfl, rfl⟩

/-- With a retry left, the increment at the end of COOLDOWN fits its register (10_state R34). -/
theorem narrow_attempt_succ (hm : s.maxRetries < 2 ^ s.params.wRetry) (ha : s.attempt < s.maxRetries) :
    narrow s.params.wRetry (s.attempt + 1) = s.attempt + 1 :=
  narrow_of_lt (by omega)

end Frame

/-! ### The clauses of R51 along a move: the request, the counters and the trace's width -/

section Clauses

variable {s t : State} {i : Instr}

/-- A count that has not spent the larger budget fits its register with one more (00_scope R6). -/
theorem narrow_cnt_succ {p : Config.Params} (hp : p.WellFormed) {c : Nat}
    (hc : c < p.pCap ∨ c < p.pAckTimeout) : narrow p.wCnt (c + 1) = c + 1 := by
  have hcap := hp.cap_lt
  have hack := hp.ack_lt
  exact narrow_of_lt (by omega)

/-- `pin` keeps its width (10_state R32). -/
theorem Move.pin_fits (h : Move s i t) (hs : s.pin < 2 ^ s.params.wPin) :
    t.pin < 2 ^ t.params.wPin := by
  cases h with
  | idleAccept | idleNotReady => exact narrow_lt _ _
  | _ => exact hs

/-- `max_retries` keeps its width (10_state R33). -/
theorem Move.maxRetries_fits (h : Move s i t) (hs : s.maxRetries < 2 ^ s.params.wRetry) :
    t.maxRetries < 2 ^ t.params.wRetry := by
  cases h with
  | idleAccept | idleNotReady => exact narrow_lt _ _
  | _ => exact hs

/-- The attempt counter stays within the retry bound, because COOLDOWN has a retry left (10_state R34). -/
theorem Move.attempt_range (h : Move s i t) (hm : s.maxRetries < 2 ^ s.params.wRetry)
    (hs : s.attempt ≤ s.maxRetries) (hc : i = .cooldown → s.attempt < s.maxRetries) :
    t.attempt ≤ t.maxRetries := by
  cases h with
  | idleAccept | idleNotReady => exact Nat.zero_le _
  | coolDone => exact (narrow_attempt_succ hm (hc rfl)).trans_le (hc rfl)
  | _ => exact hs

/-- COOLDOWN is entered with a retry left, and waits with it (44_retry R251). -/
theorem Move.cooldown_retry (h : Move s s.fetch t) (hs : s.fetch = .cooldown → s.attempt < s.maxRetries) :
    t.fetch = .cooldown → t.attempt < t.maxRetries := by
  generalize hi : s.fetch = i at h
  intro ht
  cases h with
  | acklRetry _ _ ha | ackhRetry _ _ ha | stallRetry _ ha | mismatchRetry _ _ ha => exact ha
  | coolRequest | coolWait => exact hs hi
  | _ => simp [hi] at ht

/-- A delay is pending only in a hold state: the request is made there, and leaving it consumes the answer
(10_state R39). -/
theorem Move.pend_hold (h : Move s s.fetch t) (hs : s.dlyPend = true → s.fetch.isHold = true) :
    t.dlyPend = true → t.fetch.isHold = true := by
  generalize hi : s.fetch = i at h hs
  intro ht
  cases h with
  | lowRequest | lowWait | highRequest | highWait | coolRequest | coolWait => rw [fetch_mk_st, hi]; rfl
  | lowDone | highDone | coolDone => cases ht
  | _ => cases hs ht

/-- `cnt` stays within the larger of the two budgets (10_state R35). -/
theorem Move.cnt_range (h : Move s s.fetch t) (hp : s.params.WellFormed)
    (hs : s.cnt ≤ max s.params.pCap s.params.pAckTimeout)
    (hseek : s.fetch = .acklSeek ∨ s.fetch = .ackhSeek → s.cnt < s.params.pAckTimeout)
    (hsample : s.fetch = .sampleLow ∨ s.fetch = .sampleHigh → s.cnt < s.params.pCap) :
    t.cnt ≤ max t.params.pCap t.params.pAckTimeout := by
  generalize hi : s.fetch = i at h hseek hsample
  cases h with
  | acklRetry | acklReport | acklMiss | ackhRetry | ackhReport | ackhMiss =>
    have hc : s.cnt < s.params.pAckTimeout := hseek (by simp)
    exact (narrow_cnt_succ hp (.inr hc)).trans_le (le_max_of_le_right hc)
  | lowCount | highCount =>
    have hc : s.cnt < s.params.pCap := hsample (by simp)
    exact (narrow_cnt_succ hp (.inl hc)).trans_le (le_max_of_le_left hc)
  | pullup | acklLeave | ackhLeave | lowRecord | highRecord | lastRecord => exact Nat.zero_le _
  | _ => exact hs

/-- A seek state is entered with `cnt` 0, and a miss that does not spend the budget leaves some of it
(40_sampler R141). -/
theorem Move.seek_budget (h : Move s s.fetch t) (hp : s.params.WellFormed)
    (hs : s.fetch = .acklSeek ∨ s.fetch = .ackhSeek → s.cnt < s.params.pAckTimeout) :
    t.fetch = .acklSeek ∨ t.fetch = .ackhSeek → t.cnt < t.params.pAckTimeout := by
  have hpos : 0 < s.params.pAckTimeout := hp.ack_pos
  generalize hi : s.fetch = i at h hs
  intro ht
  cases h with
  | pullup | acklLeave => exact hpos
  | acklMiss _ hc | ackhMiss _ hc =>
    have hlt : s.cnt < s.params.pAckTimeout := hs (by simp)
    exact (narrow_cnt_succ hp (.inr hlt)).trans_lt (lt_of_le_of_ne hlt hc)
  | _ => simp [hi] at ht

/-- A sample state is entered with `cnt` 0, and a count that does not reach the cap stays below it
(40_sampler R143). -/
theorem Move.sample_budget (h : Move s s.fetch t) (hp : s.params.WellFormed)
    (hs : s.fetch = .sampleLow ∨ s.fetch = .sampleHigh → s.cnt < s.params.pCap) :
    t.fetch = .sampleLow ∨ t.fetch = .sampleHigh → t.cnt < t.params.pCap := by
  have hpos : 0 < s.params.pCap := hp.cap_pos
  generalize hi : s.fetch = i at h hs
  intro ht
  cases h with
  | ackhLeave | lowRecord | highRecord => exact hpos
  | lowCount _ hc | highCount _ hc =>
    have hlt : s.cnt < s.params.pCap := hs (by simp)
    exact (narrow_cnt_succ hp (.inl hlt)).trans_lt (lt_of_le_of_ne hlt hc)
  | _ => simp [hi] at ht

/-- Adding one to a bit's number does not wrap. -/
theorem bi_succ_toNat {b : BitVec 6} (h : b.toNat ≤ 39) :
    (b + 1#6).toNat = b.toNat + 1 := by
  bv_omega

/-- `bi` stays a bit's number, because it moves only below 39 (10_state R36). -/
theorem Move.bi_range (h : Move s i t) (hs : s.bi.toNat ≤ 39) : t.bi.toNat ≤ 39 := by
  cases h with
  | ackhLeave => exact Nat.zero_le _
  | highRecord _ _ _ hb => show (s.bi + 1#6).toNat ≤ 39; bv_omega
  | _ => exact hs

/-- Every trace entry keeps its width (10_state R37). -/
theorem Move.trace_fits (h : Move s i t)
    (hs : ∀ (j : Nat) (hj : j < 80), s.trace[j] < 2 ^ s.params.wCnt) :
    ∀ (j : Nat) (hj : j < 80), t.trace[j] < 2 ^ t.params.wCnt := by
  intro j hj
  cases h with
  | lowRecord | highRecord | lastRecord =>
    rw [trace_set_get]
    split
    · exact narrow_lt _ _
    · exact hs j hj
  | _ => exact hs j hj

end Clauses

/-! ### The clauses of R51 along a move: the written entries -/

section Written

variable {s t : State}

/-- The first `n` trace entries are written, each in `[0, cap]` (10_state R37). -/
def Written (tr : Vector Nat 80) (cap n : Nat) : Prop :=
  ∀ (j : Nat) (h : j < 80), j < n → tr[j] ≤ cap

/-- Recording the next entry, at most the cap, extends the written ones by it. -/
theorem Written.set_succ {tr : Vector Nat 80} {cap n m v : Nat} (h : Written tr cap n) (hn : n < 80)
    (hv : v ≤ cap) (hm : m = n + 1) : Written (tr.set n v hn) cap m := by
  intro j hj hlt
  rw [trace_set_get]
  split
  · exact hv
  · exact h j hj (by omega)

/-- What a measurement below its cap records is at most the cap, narrowed or not (40_sampler R143). -/
theorem Records.narrow_le {l : Level} {v : Nat} (h : Records s l v) (hc : s.cnt < s.params.pCap) :
    narrow s.params.wCnt v ≤ s.params.pCap := by
  refine (Nat.mod_le _ _).trans ?_
  obtain ⟨-, -, rfl⟩ | ⟨-, rfl⟩ := h
  · exact le_rfl
  · exact hc.le

/-- SAMPLE_LOW starts with nothing to have written, or after the high phase of the bit before
(10_state R51). -/
theorem Move.written_low (h : Move s s.fetch t) (hb : s.bi.toNat ≤ 39)
    (hc : s.fetch = .sampleLow ∨ s.fetch = .sampleHigh → s.cnt < s.params.pCap)
    (hl : s.fetch = .sampleLow → Written s.trace s.params.pCap s.lowIndex)
    (hh : s.fetch = .sampleHigh → Written s.trace s.params.pCap s.highIndex) :
    t.fetch = .sampleLow → Written t.trace t.params.pCap t.lowIndex := by
  generalize hi : s.fetch = i at h hc hl hh
  intro ht
  cases h with
  | ackhLeave => exact fun j _ hlt => absurd hlt (Nat.not_lt_zero j)
  | lowCount => exact hl rfl
  | highRecord v hv hj =>
    have hidx : 2 * (s.bi + 1#6).toNat = s.highIndex + 1 := by
      rw [bi_succ_toNat hb, State.highIndex]; omega
    exact (hh rfl).set_succ hj (hv.narrow_le (hc (.inr rfl))) hidx
  | _ => simp [hi] at ht

/-- SAMPLE_HIGH starts after the low phase of its own bit (10_state R51). -/
theorem Move.written_high (h : Move s s.fetch t)
    (hc : s.fetch = .sampleLow ∨ s.fetch = .sampleHigh → s.cnt < s.params.pCap)
    (hl : s.fetch = .sampleLow → Written s.trace s.params.pCap s.lowIndex)
    (hh : s.fetch = .sampleHigh → Written s.trace s.params.pCap s.highIndex) :
    t.fetch = .sampleHigh → Written t.trace t.params.pCap t.highIndex := by
  generalize hi : s.fetch = i at h hc hl hh
  intro ht
  cases h with
  | lowRecord v hv hj => exact (hl rfl).set_succ hj (hv.narrow_le (hc (.inl rfl))) rfl
  | highCount => exact hh rfl
  | _ => simp [hi] at ht

/-- DECODE is entered after the last of the eighty phases (10_state R51, 41_sequencer R177). -/
theorem Move.written_all (h : Move s s.fetch t)
    (hc : s.fetch = .sampleLow ∨ s.fetch = .sampleHigh → s.cnt < s.params.pCap)
    (hh : s.fetch = .sampleHigh → Written s.trace s.params.pCap s.highIndex) :
    t.fetch = .decode → Written t.trace t.params.pCap 80 := by
  generalize hi : s.fetch = i at h hc hh
  intro ht
  cases h with
  | lastRecord v hv hj hb =>
    have hidx : 80 = s.highIndex + 1 := by rw [State.highIndex, hb]; rfl
    exact (hh rfl).set_succ hj (hv.narrow_le (hc (.inr rfl))) hidx
  | _ => simp [hi] at ht

end Written

/-! ### The clauses of R51 along a move: the result registers -/

section Results

variable {s t : State} {i : Instr}

/-- The valid flag is cleared when a read is accepted, and raised only on the way back to IDLE
(10_state R40, R51). -/
theorem Move.busy_unpublished (h : Move s s.fetch t) (hs : s.fetch ≠ .idle → s.resValid = false) :
    t.fetch ≠ .idle → t.resValid = false := by
  generalize hi : s.fetch = i at h hs
  intro ht
  cases h with
  | idleAccept => rfl
  | idleWait | idleNotReady | acklReport | ackhReport | stallReport | decodeOk | mismatchReport =>
    simp [hi] at ht
  | _ => exact hs nofun

/-- Until a result is published the result registers hold what acceptance or reset left
(41_sequencer R162). -/
theorem Move.unpublished_clear (h : Move s i t)
    (hs : s.resValid = false →
      s.resStatus = .ok ∧ s.resTdiag = .none ∧ s.resFrame = 0#40 ∧ s.resAttempts = 0) :
    t.resValid = false →
      t.resStatus = .ok ∧ t.resTdiag = .none ∧ t.resFrame = 0#40 ∧ t.resAttempts = 0 := by
  cases h with
  | idleAccept => exact fun _ => ⟨rfl, rfl, rfl, rfl⟩
  | idleNotReady | acklReport | ackhReport | stallReport | decodeOk | mismatchReport => exact nofun
  | _ => exact hs

/-- No branch publishes `INVALID_ARGUMENT` (60_exceptions R274). -/
theorem Move.kind_produced (h : Move s i t) (hs : s.resStatus ≠ .invalidArgument) :
    t.resStatus ≠ .invalidArgument := by
  cases h with
  | idleAccept | idleNotReady | acklReport | ackhReport | stallReport | decodeOk | mismatchReport =>
    exact nofun
  | _ => exact hs

/-- Each branch that writes a result gives a diagnostic exactly to a timeout (30_encoding R104). -/
theorem Move.diag_timeout (h : Move s i t) (hs : s.resTdiag = .none ↔ s.resStatus ≠ .timeout) :
    t.resTdiag = .none ↔ t.resStatus ≠ .timeout := by
  cases h with
  | idleAccept | idleNotReady | decodeOk | mismatchReport => exact iff_of_true rfl nofun
  | acklReport | ackhReport | stallReport => exact iff_of_false nofun (not_not.mpr rfl)
  | _ => exact hs

/-- Each branch that writes a result of another kind than `OK` writes a zero frame (10_state R43). -/
theorem Move.frame_failed (h : Move s i t) (hs : s.resStatus ≠ .ok → s.resFrame = 0#40) :
    t.resStatus ≠ .ok → t.resFrame = 0#40 := by
  cases h with
  | decodeOk => exact absurd rfl
  | idleAccept | idleNotReady | acklReport | ackhReport | stallReport | mismatchReport =>
    exact fun _ => rfl
  | _ => exact hs

/-- Only DECODE publishes `OK`, and after the checksum agreed (42_decoder R204). -/
theorem Move.frame_checked (h : Move s i t)
    (hs : s.resValid = true → s.resStatus = .ok →
      ∃ f : Vector Byte 5, s.resFrame = frameWord f ∧ checksum f = f[4]) :
    t.resValid = true → t.resStatus = .ok →
      ∃ f : Vector Byte 5, t.resFrame = frameWord f ∧ checksum f = f[4] := by
  cases h with
  | decodeOk _ hc => exact fun _ _ => ⟨_, rfl, hc⟩
  | idleAccept | idleNotReady | acklReport | ackhReport | stallReport | mismatchReport => exact nofun
  | _ => exact hs

/-- A published result carries the attempt counter, which moves only while nothing is published
(10_state R44). -/
theorem Move.attempts_published (h : Move s i t) (hbusy : i ≠ .idle → s.resValid = false)
    (hs : s.resValid = true → s.resAttempts = s.attempt) :
    t.resValid = true → t.resAttempts = t.attempt := by
  cases h with
  | idleAccept => exact nofun
  | idleNotReady | acklReport | ackhReport | stallReport | decodeOk | mismatchReport =>
    exact fun _ => rfl
  | coolDone => exact fun hv => absurd (hbusy nofun) (ne_false_of_eq_true hv)
  | _ => exact hs

/-- `res_attempts` is written 0 or the attempt counter, which fits its width (10_state R44). -/
theorem Move.resAttempts_fits (h : Move s i t) (hm : s.maxRetries < 2 ^ s.params.wRetry)
    (ha : s.attempt ≤ s.maxRetries) (hs : s.resAttempts < 2 ^ s.params.wRetry) :
    t.resAttempts < 2 ^ t.params.wRetry := by
  cases h with
  | idleAccept | idleNotReady => exact Nat.two_pow_pos _
  | acklReport | ackhReport | stallReport | decodeOk | mismatchReport => exact ha.trans_lt hm
  | _ => exact hs

end Results

/-! ### The invariant -/

/-- The inputs of the next edge have the port's widths (30_encoding R107). -/
theorem nextInputs_wellFormed (s t : State) : (nextInputs s t).WellFormed s.params :=
  ⟨narrow_lt _ _, narrow_lt _ _⟩

/-- The DELAY agent answers only a request that is pending after the step: an answer from before it that
the step consumed is gone (60_exceptions R294). -/
theorem nextInputs_done_pending {s t : State} (hs : s.inp.dlyDone = true → s.dlyPend = true) :
    (nextInputs s t).dlyDone = true → t.dlyPend = true := by
  intro hd
  obtain ⟨hconsumed, hdone | ⟨hpend, -⟩⟩ := (delayAnswer_true_iff _ _ _ _).mp hd
  · by_contra hp
    exact hconsumed ⟨hs hdone, Bool.eq_false_of_not_eq_true hp⟩
  · exact hpend

/-- An operation, and the other agents after it, keep the invariant. -/
theorem Move.inv {s t : State} (h : Move s s.fetch t) (hs : s.Inv) : (advance s t).Inv where
  params_wf := h.params_eq.symm ▸ hs.params_wf
  inputs_wf := h.params_eq.symm ▸ nextInputs_wellFormed s t
  pin_fits := h.pin_fits hs.pin_fits
  maxRetries_fits := h.maxRetries_fits hs.maxRetries_fits
  resAttempts_fits := h.resAttempts_fits hs.maxRetries_fits hs.attempt_range hs.resAttempts_fits
  trace_fits := h.trace_fits hs.trace_fits
  bi_range := h.bi_range hs.bi_range
  attempt_range := h.attempt_range hs.maxRetries_fits hs.attempt_range hs.cooldown_retry
  cooldown_retry := h.cooldown_retry hs.cooldown_retry
  pend_hold := h.pend_hold hs.pend_hold
  done_pending := nextInputs_done_pending hs.done_pending
  cnt_range := h.cnt_range hs.params_wf hs.cnt_range hs.seek_budget hs.sample_budget
  seek_budget := h.seek_budget hs.params_wf hs.seek_budget
  sample_budget := h.sample_budget hs.params_wf hs.sample_budget
  written_low := h.written_low hs.bi_range hs.sample_budget hs.written_low hs.written_high
  written_high := h.written_high hs.sample_budget hs.written_low hs.written_high
  written_all ht j hj := h.written_all hs.sample_budget hs.written_high ht j hj hj
  busy_unpublished := h.busy_unpublished hs.busy_unpublished
  unpublished_clear := h.unpublished_clear hs.unpublished_clear
  kind_produced := h.kind_produced hs.kind_produced
  diag_timeout := h.diag_timeout hs.diag_timeout
  frame_failed := h.frame_failed hs.frame_failed
  frame_checked := h.frame_checked hs.frame_checked
  attempts_published := h.attempts_published hs.busy_unpublished hs.attempts_published

/-- After reset the next operation is IDLE. -/
@[simp] theorem fetch_resetWith (p : Config.Params) : (State.resetWith p).fetch = .idle :=
  decodeCode_encode .idle

/-- The reset column meets the invariant under every admitted parameter set (70_reset R310). -/
theorem resetWith_inv {p : Config.Params} (hp : p.WellFormed) : (State.resetWith p).Inv where
  params_wf := hp
  inputs_wf := ⟨Nat.two_pow_pos _, Nat.two_pow_pos _⟩
  pin_fits := Nat.two_pow_pos _
  maxRetries_fits := Nat.two_pow_pos _
  resAttempts_fits := Nat.two_pow_pos _
  trace_fits j hj := by simp [State.resetWith]
  bi_range := Nat.zero_le _
  attempt_range := le_rfl
  cooldown_retry := by simp
  pend_hold := nofun
  done_pending := nofun
  cnt_range := Nat.zero_le _
  seek_budget _ := hp.ack_pos
  sample_budget _ := hp.cap_pos
  written_low := by simp
  written_high := by simp
  written_all := by simp
  busy_unpublished h := absurd (fetch_resetWith p) h
  unpublished_clear _ := ⟨rfl, rfl, rfl, rfl⟩
  kind_produced := nofun
  diag_timeout := iff_of_true rfl nofun
  frame_failed := absurd rfl
  frame_checked := nofun
  attempts_published := nofun

/-- A reset edge keeps the invariant: it leaves the reset column, with a free trace of the entries' width
and free inputs of the port's, and no answer from the DELAY agent (70_reset R310, R313). -/
theorem resetEdge_inv {s : State} (hp : s.params.WellFormed) : (resetEdge s).Inv :=
  { resetWith_inv hp with
    inputs_wf := nextInputs_wellFormed s s
    trace_fits := fun j hj => by
      rw [resetEdge_trace, Vector.getElem_map]; exact narrow_lt _ _
    done_pending := nofun
    written_low := by simp
    written_high := by simp
    written_all := by simp }

/-- Every step keeps the invariant, the reset edge and the operations alike. -/
theorem step_inv {s t : State} (hs : s.Inv) (h : step s = .next t) : t.Inv := by
  obtain ⟨hp, ⟨-, rfl⟩ | ⟨-, u, hu, rfl⟩⟩ := step_cases h
  · exact resetEdge_inv hp
  · exact (exec_move hu).inv hs

/-! ### What a sampling step answers -/

/-- There are two levels: what is not one of two different levels is the other. -/
theorem level_eq_of_ne {a l other : Level} (h : other ≠ l) (ha : a ≠ l) : a = other := by
  cases l with
  | low => exact (not_low ha).trans (not_low h).symm
  | high => exact (not_high ha).trans (not_high h).symm

section Sampling

variable {s : State} {l : Level} {j v : Nat} {f : State → State}

/-- Below the trace's end a measurement is recorded (40_sampler R143). -/
theorem record_of_lt (hj : j < 80) : s.record j v f =
    .next (f { s.setCnt 0 with trace := s.trace.set j (narrow s.params.wCnt v) hj }) :=
  dif_pos hj

/-- Outside the trace a recording is refused by name (93 I14). -/
theorem record_of_ge (hj : 80 ≤ j) : s.record j v f = .refused .traceIndexUnreachable :=
  dif_neg (Nat.not_lt.mpr hj)

/-- `CountStep` at its level below the cap counts (40_sampler R143). -/
theorem countStep_of_count (hl : s.inp.gpioLevel = l) (hc : s.cnt + 1 ≠ s.params.pCap) :
    s.countStep l j f = .next ((s.drive .readLevel none).setCnt (s.cnt + 1)) := by
  unfold State.countStep State.lineLevel
  rw [if_pos hl, if_neg hc]

/-- `CountStep` at the cap or at a change of the line records (40_sampler R143). -/
theorem countStep_of_records (h : Records s l v) :
    s.countStep l j f = (s.drive .readLevel none).record j v f := by
  unfold State.countStep State.lineLevel
  obtain ⟨hl, hc, rfl⟩ | ⟨hl, rfl⟩ := h
  · rw [if_pos hl, if_pos hc]
  · rw [if_neg hl]

/-- Outside the trace `CountStep` is refused exactly when it would record (93 I14). -/
theorem countStep_outside {other : Level} (ho : other ≠ l) (hj : 80 ≤ j) :
    s.countStep l j f =
      if s.inp.gpioLevel = other ∨ s.cnt + 1 = s.params.pCap then .refused .traceIndexUnreachable
      else .next { s with out := ⟨.readLevel, none⟩, cnt := (s.cnt + 1) % 2 ^ s.params.wCnt } := by
  by_cases hl : s.inp.gpioLevel = l
  · by_cases hc : s.cnt + 1 = s.params.pCap
    · rw [countStep_of_records (.inl ⟨hl, hc, rfl⟩), record_of_ge hj, if_pos (.inr hc)]
    · rw [countStep_of_count hl hc, if_neg (by simp [hc, hl, ho.symm])]
      rfl
  · rw [countStep_of_records (.inr ⟨hl, rfl⟩), record_of_ge hj,
      if_pos (.inl (level_eq_of_ne ho hl))]

end Sampling

/-! ### The measurement of a phase

The two sample states run one procedure, so a phase is named by the level it measures. -/

/-- The sample state that measures the phase of a level (41_sequencer R175, R176). -/
def phaseInstr : Level → Instr
  | .low => .sampleLow
  | .high => .sampleHigh

/-- The trace entry of a bit's phase (10_state R36). -/
def phaseIndex : Level → BitVec 6 → Nat
  | .low, b => 2 * b.toNat
  | .high, b => 2 * b.toNat + 1

/-- The `on_done` of a phase (41_sequencer R175, R176). -/
def phaseDone : Level → State → State
  | .low => fun t => t.goto .sampleHigh
  | .high => State.nextBit

/-- Where the end of a phase leads: the control state and the bit index after it (41_sequencer R175,
R176). -/
def afterPhase : Level → BitVec 6 → Instr × BitVec 6
  | .low, b => (.sampleHigh, b)
  | .high, b => if b = 39#6 then (.decode, b) else (.sampleLow, b + 1#6)

section Phase

variable {s t u : State} {l : Level} {v : Nat}

/-- Both sample states run `CountStep` (40_sampler R143). -/
theorem exec_phaseInstr (l : Level) (s : State) :
    exec (phaseInstr l) s = s.countStep l (phaseIndex l s.bi) (phaseDone l) := by
  cases l <;> rfl

/-- The `on_done` of a phase writes `st` and `bi` as `afterPhase` says. -/
theorem phaseDone_fetch_bi (l : Level) (s : State) :
    ((phaseDone l s).fetch, (phaseDone l s).bi) = afterPhase l s.bi := by
  cases l with
  | low => simp [phaseDone, afterPhase]
  | high =>
    obtain ⟨hb, e⟩ | ⟨hb, e⟩ := nextBit_cases s <;> simp [phaseDone, afterPhase, e, hb]

/-- The `on_done` of a phase keeps the trace, the count and the parameters. -/
theorem phaseDone_kept (l : Level) (s : State) :
    (phaseDone l s).trace = s.trace ∧ (phaseDone l s).cnt = s.cnt ∧
      (phaseDone l s).params = s.params := by
  cases l with
  | low => exact ⟨rfl, rfl, rfl⟩
  | high => obtain ⟨-, e⟩ | ⟨-, e⟩ := nextBit_cases s <;> (rw [phaseDone, e]; exact ⟨rfl, rfl, rfl⟩)

/-- After a high phase the block is at the next bit, or after the last one in DECODE with `bi` still 39. -/
theorem afterPhase_high {b : BitVec 6} (hb : b.toNat ≤ 39) :
    (afterPhase .high b).1 = (if b.toNat + 1 < 40 then .sampleLow else .decode) ∧
      (afterPhase .high b).2.toNat = min (b.toNat + 1) 39 := by
  by_cases hlast : b = 39#6
  · subst hlast; decide
  · have hlt : b.toNat < 39 := by bv_omega
    rw [afterPhase, if_neg hlast, if_pos (by omega), bi_succ_toNat hb]
    exact ⟨rfl, by omega⟩

/-- A bit's number names two trace entries. -/
theorem phaseIndex_lt {b : BitVec 6} (hb : b.toNat ≤ 39) (l : Level) : phaseIndex l b < 80 := by
  cases l <;> simp only [phaseIndex] <;> omega

/-- From `s` to `t` a measurement counted `n` samples and goes on. -/
structure Counted (s : State) (n : Nat) (t : State) : Prop where
  fetch : t.fetch = s.fetch
  bi : t.bi = s.bi
  trace : t.trace = s.trace
  params : t.params = s.params
  cnt : t.cnt = s.cnt + n

/-- From `s` to `t` the measurement of the phase of `l` ended and recorded `v`. -/
structure Measured (l : Level) (s : State) (v : Nat) (t : State) : Prop where
  moved : (t.fetch, t.bi) = afterPhase l s.bi
  cnt : t.cnt = 0
  params : t.params = s.params
  trace : ∀ hj : phaseIndex l s.bi < 80, t.trace = s.trace.set (phaseIndex l s.bi) v hj

/-- A step of a sample state is `CountStep` of its phase, and then the other agents. -/
theorem stepWith_phase {x : Config.Inputs} (hp : s.params.WellFormed) (hf : s.fetch = phaseInstr l)
    (hx : x.rst = false)
    (he : { s with inp := x }.countStep l (phaseIndex l s.bi) (phaseDone l) = .next u) :
    stepWith x s = .next (advance { s with inp := x } u) :=
  stepWith_of_exec hp hx (by rw [hf, exec_phaseInstr]; exact he)

/-- One sample at the measured level below the cap. -/
theorem stepWith_count {x : Config.Inputs} (hp : s.params.WellFormed) (hf : s.fetch = phaseInstr l)
    (hx : Sees x l) (hc : s.cnt + 1 < s.params.pCap) :
    ∃ t, stepWith x s = .next t ∧ Counted s 1 t := by
  exact ⟨_, stepWith_phase hp hf hx.2 (countStep_of_count hx.1 hc.ne), rfl, rfl, rfl, rfl,
    narrow_of_lt (hc.trans hp.cap_lt)⟩

/-- Any number of samples at the measured level below the cap. -/
theorem feed_count {xs : List Config.Inputs} (hp : s.params.WellFormed) (hf : s.fetch = phaseInstr l)
    (hxs : ∀ x ∈ xs, Sees x l) (hc : s.cnt + xs.length < s.params.pCap) :
    ∃ t, feed xs s = .next t ∧ Counted s xs.length t := by
  induction xs generalizing s with
  | nil => exact ⟨s, rfl, rfl, rfl, rfl, rfl, rfl⟩
  | cons x xs ih =>
    rw [List.forall_mem_cons] at hxs
    rw [List.length_cons] at hc ⊢
    obtain ⟨t, ht, hst⟩ := stepWith_count hp hf hxs.1 (by omega)
    obtain ⟨u, hu, htu⟩ := ih (hst.params ▸ hp) (hst.fetch.trans hf) hxs.2
      (by rw [hst.cnt, hst.params]; omega)
    refine ⟨u, (feed_cons ht).trans hu, htu.fetch.trans hst.fetch, htu.bi.trans hst.bi,
      htu.trace.trans hst.trace, htu.params.trans hst.params, ?_⟩
    rw [htu.cnt, hst.cnt]
    omega

/-- The sample that ends a measurement, at the cap or at a change of the line. -/
theorem stepWith_record {y : Config.Inputs} (hp : s.params.WellFormed) (hf : s.fetch = phaseInstr l)
    (hb : s.bi.toNat ≤ 39) (hy : y.rst = false) (hv : Records { s with inp := y } l v)
    (hcap : v ≤ s.params.pCap) : ∃ t, stepWith y s = .next t ∧ Measured l s v t := by
  refine ⟨_, stepWith_phase hp hf hy
    ((countStep_of_records hv).trans (record_of_lt (phaseIndex_lt hb l))), ?_⟩
  obtain ⟨htrace, hcnt, hparams⟩ := phaseDone_kept l _
  refine ⟨phaseDone_fetch_bi l _, hcnt.trans (narrow_zero _), hparams, fun hj => ?_⟩
  have hfits : narrow s.params.wCnt v = v := narrow_of_lt (hcap.trans_lt hp.cap_lt)
  exact htrace.trans (congrArg (s.trace.set (phaseIndex l s.bi) · hj) hfits)

/-- Counting first changes nothing of what a measurement records, or where. -/
theorem Counted.measured {n : Nat} (hc : Counted s n t) (hm : Measured l t v u) : Measured l s v u := by
  obtain ⟨-, hbi, htrace, hparams, -⟩ := hc
  obtain ⟨hmoved, hcnt, hparams', htrace'⟩ := hm
  rw [hbi] at hmoved htrace'
  rw [htrace] at htrace'
  exact ⟨hmoved, hcnt, hparams'.trans hparams, htrace'⟩

/-- A whole measurement from `cnt = 0`: samples at its level below the cap, and the one that ends it. -/
theorem feed_measure {xs : List Config.Inputs} {y : Config.Inputs} (hp : s.params.WellFormed)
    (hf : s.fetch = phaseInstr l) (hb : s.bi.toNat ≤ 39) (h0 : s.cnt = 0)
    (hxs : ∀ x ∈ xs, Sees x l) (hlen : xs.length < s.params.pCap) (hy : y.rst = false)
    (hv : Records { s with inp := y, cnt := xs.length } l v) :
    ∃ t, feed (xs ++ [y]) s = .next t ∧ Measured l s v t := by
  have hcap : v ≤ s.params.pCap := by
    obtain ⟨-, -, rfl⟩ | ⟨-, rfl⟩ := hv
    · exact le_rfl
    · exact hlen.le
  obtain ⟨u, hu, hsu⟩ := feed_count hp hf hxs (by omega)
  have hcnt : u.cnt = xs.length := by rw [hsu.cnt, h0, Nat.zero_add]
  obtain ⟨t, ht, hut⟩ := stepWith_record (s := u) (y := y) (v := v) (hsu.params ▸ hp) (hsu.fetch.trans hf)
    (hsu.bi ▸ hb) hy (by simpa only [Records, hcnt, hsu.params] using hv) (hsu.params ▸ hcap)
  exact ⟨t, by rw [feed_append hu, feed_cons ht]; rfl, hsu.measured hut⟩

/-- A phase read as `phaseInputs` has it records its count, at the cap or below it. -/
theorem feed_phaseInputs {other : Level} {n : Nat} (ho : other ≠ l) (hp : s.params.WellFormed)
    (hf : s.fetch = phaseInstr l) (hb : s.bi.toNat ≤ 39) (h0 : s.cnt = 0) (hn : n ≤ s.params.pCap) :
    ∃ t, feed (phaseInputs s.params.pCap l other n) s = .next t ∧ Measured l s n t := by
  have hsees (m : Nat) : ∀ x ∈ List.replicate m (readInputs l), Sees x l := fun x hx => by
    rw [List.eq_of_mem_replicate hx]
    exact ⟨rfl, rfl⟩
  unfold phaseInputs
  obtain hlt | rfl := hn.lt_or_eq
  · rw [if_pos hlt]
    exact feed_measure hp hf hb h0 (hsees n) (by simpa using hlt) rfl (.inr ⟨ho, by simp⟩)
  · obtain ⟨m, hm⟩ := Nat.exists_eq_add_one.mpr hp.cap_pos
    rw [if_neg (lt_irrefl _), List.append_nil, hm, List.replicate_succ', ← hm]
    exact feed_measure hp hf hb h0 (hsees m) (by simp [hm]) rfl (.inl ⟨rfl, by simp [hm], rfl⟩)

end Phase

/-! ### The forty bits -/

section Bits

variable {s t : State} {low high : Fin 40 → Nat} {p : Config.Params}

/-- A bit is measured by its two phases: it fills its two trace entries and moves to the next bit, or to
DECODE after the last (41_sequencer R176). -/
theorem feed_bitInputs {nl nh : Nat} (hp : s.params.WellFormed) (hf : s.fetch = .sampleLow)
    (hb : s.bi.toNat ≤ 39) (h0 : s.cnt = 0) (hnl : nl ≤ s.params.pCap) (hnh : nh ≤ s.params.pCap) :
    ∃ t, feed (bitInputs s.params.pCap nl nh) s = .next t ∧
      (t.fetch, t.bi) = afterPhase .high s.bi ∧ t.cnt = 0 ∧ t.params = s.params ∧
      ∀ (j : Nat) (hj : j < 80), t.trace[j] =
        if 2 * s.bi.toNat + 1 = j then nh else if 2 * s.bi.toNat = j then nl else s.trace[j] := by
  obtain ⟨u, hu, hlow⟩ := feed_phaseInputs (l := .low) (other := .high) nofun hp hf hb h0 hnl
  obtain ⟨hfu, hbu⟩ := Prod.mk.inj hlow.moved
  have hpu := hlow.params
  obtain ⟨t, ht, hhigh⟩ := feed_phaseInputs (l := .high) (other := .low) nofun (hpu ▸ hp) hfu
    (hbu ▸ hb) hlow.cnt (hpu ▸ hnh)
  refine ⟨t, ?_, hbu ▸ hhigh.moved, hhigh.cnt, hhigh.params.trans hpu, fun j hj => ?_⟩
  · rw [bitInputs, feed_append hu, ← hpu, ht]
  · simp only [hhigh.trace (phaseIndex_lt (hbu ▸ hb) _), hlow.trace (phaseIndex_lt hb _),
      trace_set_get, phaseIndex, hbu]

/-- The block has captured the first `k` bits of a wire: it is at bit `k`, or after the last one in DECODE
with `bi` still 39 (41_sequencer R176). -/
structure Captured (p : Config.Params) (low high : Fin 40 → Nat) (k : Nat) (t : State) : Prop where
  params : t.params = p
  fetch : t.fetch = if k < 40 then .sampleLow else .decode
  bi : t.bi.toNat = min k 39
  cnt : t.cnt = 0
  entries : ∀ j : Fin 40, j.val < k → t.trace[2 * j.val] = low j ∧ t.trace[2 * j.val + 1] = high j

/-- The next bit is captured as the earlier ones were, and they are kept. -/
theorem Captured.feed_next {k : Fin 40} (h : Captured p low high k s) (hp : p.WellFormed)
    (hlow : low k ≤ p.pCap) (hhigh : high k ≤ p.pCap) :
    ∃ t, feed (bitInputs p.pCap (low k) (high k)) s = .next t ∧ Captured p low high (k + 1) t := by
  obtain ⟨rfl, hfetch, hbi, hcnt, hentries⟩ := h
  rw [if_pos k.isLt] at hfetch
  rw [min_eq_left (by omega)] at hbi
  obtain ⟨t, ht, hmoved, hcnt', hparams, htrace⟩ :=
    feed_bitInputs hp hfetch (by omega) hcnt hlow hhigh
  simp only [hbi] at htrace
  obtain ⟨hf, hb⟩ := afterPhase_high (b := s.bi) (by omega)
  rw [← hmoved, hbi] at hf hb
  refine ⟨t, ht, hparams, hf, hb, hcnt', fun j hj => ?_⟩
  rw [htrace, htrace]
  obtain hlt | heq := (Nat.lt_succ_iff.mp hj).lt_or_eq
  · rw [if_neg (by omega), if_neg (by omega), if_neg (by omega), if_neg (by omega)]
    exact hentries j hlt
  · obtain rfl := Fin.ext heq
    simp

/-- The first `k` bits of a wire, by induction on `k`. -/
theorem feed_bits (hp : s.params.WellFormed) (hf : s.fetch = .sampleLow) (hb : s.bi = 0#6)
    (h0 : s.cnt = 0) (hlow : ∀ k, low k ≤ s.params.pCap) (hhigh : ∀ k, high k ≤ s.params.pCap)
    {k : Nat} (hk : k ≤ 40) :
    ∃ t, feed (((List.finRange 40).take k).flatMap fun i =>
        bitInputs s.params.pCap (low i) (high i)) s = .next t ∧
      Captured s.params low high k t := by
  induction k with
  | zero => exact ⟨s, rfl, rfl, hf, by rw [hb]; rfl, h0, nofun⟩
  | succ k ih =>
    obtain ⟨u, hu, hcu⟩ := ih (by omega)
    obtain ⟨t, ht, hct⟩ := Captured.feed_next (k := ⟨k, hk⟩) hcu hp (hlow _) (hhigh _)
    refine ⟨t, ?_, hct⟩
    rw [List.take_succ_eq_append_getElem (by simpa using hk), List.flatMap_append, feed_append hu]
    simpa using ht

/-- A phase reads at most the cap's number of samples (41_sequencer R177). -/
theorem length_phaseInputs_le {cap n : Nat} (l other : Level) (hn : n ≤ cap) :
    (phaseInputs cap l other n).length ≤ cap := by
  rw [phaseInputs, List.length_append, List.length_replicate]
  split
  · exact Nat.succ_le_of_lt ‹_›
  · exact hn

/-- Forty bits read at most `80 * P_CAP` samples (41_sequencer R177). -/
theorem length_wireInputs_le {cap : Nat} (hlow : ∀ k, low k ≤ cap) (hhigh : ∀ k, high k ≤ cap) :
    (wireInputs cap low high).length ≤ 80 * cap := by
  have hbit (k : Fin 40) : (bitInputs cap (low k) (high k)).length ≤ 2 * cap := by
    have h1 := length_phaseInputs_le .low .high (hlow k)
    have h2 := length_phaseInputs_le .high .low (hhigh k)
    rw [bitInputs, List.length_append]
    omega
  rw [wireInputs, List.length_flatMap]
  refine (List.sum_le_card_nsmul _ (2 * cap) ?_).trans (le_of_eq ?_)
  · simpa using hbit
  · simp; omega

end Bits

end Machine

end Sys2Proof

namespace Sys2Proof.Proofs

open Sys2Proof.Machine

/-- Settles O9: the reset edge leaves the reset column, and each branch of each operation keeps each clause. -/
theorem everyStepKeepsInvariant : Obligations.EveryStepKeepsInvariant :=
  fun _ _ => step_inv

/-- Settles O8: the reset column meets the invariant whatever the parameters, `resetParams` among them. -/
theorem resetStatesMeetInvariant : Obligations.ResetStatesMeetInvariant :=
  ⟨fun _ => resetWith_inv, resetWith_inv (by decide)⟩

/-- Settles O11: the only refusal of an operation is that of a `bi` that names no bit. -/
theorem everyOperationCompletes : Obligations.EveryOperationCompletes :=
  fun _ _ => exec_answers

/-- Settles O12: with `bi` from 40 on, neither entry of the bit is in the trace. -/
theorem recordingOutsideTraceIsRefused : Obligations.RecordingOutsideTraceIsRefused := by
  intro s hb
  exact ⟨countStep_outside nofun (by unfold State.lowIndex; omega),
    countStep_outside nofun (by unfold State.highIndex; omega)⟩

/-- Settles O31, register by register along the branches of the operations. -/
theorem registersChangeOnlyWhereTabled : Obligations.RegistersChangeOnlyWhereTabled := by
  intro i s t h
  have hm := exec_move h
  exact ⟨hm.latches_kept, hm.attempt_kept, hm.cnt_kept, hm.bi_kept, hm.trace_kept, hm.frame_kept,
    hm.dlyPend_kept, hm.results_kept, hm.params_eq, hm.inp_tick_eq⟩

/-- Settles O32: only the recording branches write the trace, each its own entry. -/
theorem traceWritesOneEntry : Obligations.TraceWritesOneEntry :=
  fun _ _ _ h => (exec_move h).trace_entry_kept

/-- Settles O40: outside IDLE only the end of COOLDOWN writes the counter, and the invariant leaves it a
retry, so that the increment fits. -/
theorem attemptMovesOnlyAtCooldownEnd : Obligations.AttemptMovesOnlyAtCooldownEnd := by
  intro s t hinv hrst hidle h
  obtain ⟨-, ⟨hr, -⟩ | ⟨-, u, hu, rfl⟩⟩ := step_cases h
  · exact absurd hr (ne_true_of_eq_false hrst)
  · have hm := exec_move hu
    by_cases hc : s.fetch = .cooldown
    · rw [← narrow_attempt_succ hinv.maxRetries_fits (hinv.cooldown_retry hc)]
      exact (hc ▸ hm).cooldown_attempt.imp_right (⟨hc, ·⟩)
    · exact .inl (hm.attempt_kept hidle hc)

/-- Settles O37: 0 is the code of IDLE and of no other state. -/
theorem busyMeansNotIdle : Obligations.BusyMeansNotIdle := by
  intro s
  rw [State.busy, bne_iff_ne, ne_eq, ne_eq, fetch_eq_iff]
  rfl

/-- Settles O47: bit after bit the two phases fill their entries, and the fortieth ends in DECODE. -/
theorem samplingCapturesEveryPhase : Obligations.SamplingCapturesEveryPhase := by
  intro s low high hp hf hb h0 hlow hhigh
  refine ⟨length_wireInputs_le hlow hhigh, ?_⟩
  obtain ⟨t, ht, hc⟩ := feed_bits hp hf hb h0 hlow hhigh le_rfl
  rw [List.take_of_length_le (by simp)] at ht
  exact ⟨t, ht, hc.fetch, hc.cnt, BitVec.eq_of_toNat_eq hc.bi, fun k => hc.entries k k.isLt⟩

end Sys2Proof.Proofs

/-!
PROOF. The obligations of 20_memory: where a wire bit stands in the packed frame, and that the five result
registers change together.
-/

namespace Sys2Proof.Machine

open Sys2Proof

/-! ### The bits of a sliced frame -/

/-- Bit `7 - m` of byte `c` of a slice is lane `8c + m` (42_decoder R202). -/
theorem sliceByte_getLsbD (tr : Vector Nat 80) (c : Fin 5) (m : Fin 8) :
    (sliceByte tr c).getLsbD (7 - m) = sliceBit tr ⟨8 * c + m, by omega⟩ := by
  rw [sliceByte, packByte_getLsbD]
  fin_cases m <;> rfl

/-- The bytes of a slice, in order (42_decoder R202). -/
theorem sliceFrame_getElem (tr : Vector Nat 80) (c : Nat) (hc : c < 5) :
    (sliceFrame tr)[c] = sliceByte tr ⟨c, hc⟩ := by
  interval_cases c <;> rfl

/-- Wire bit `k` of a slice is bit `7 - k mod 8` of byte `k div 8`, and compares the two entries of its
bit (42_decoder R201, R202). -/
theorem sliceFrame_getLsbD (tr : Vector Nat 80) (k : Nat) (hk : k < 40) :
    (sliceFrame tr)[k / 8].getLsbD (7 - k % 8) = decide (tr[2 * k] < tr[2 * k + 1]) := by
  have hbit := sliceByte_getLsbD tr ⟨k / 8, by omega⟩ ⟨k % 8, by omega⟩
  simpa only [sliceFrame_getElem, sliceBit, Nat.div_add_mod] using hbit

/-! ### The result registers -/

/-- What the five result registers hold (20_memory R83). -/
def State.ResultsAre (t : State) (valid : Bool) (kind : ResultKind) (diag : TimeoutDiag)
    (fr : BitVec 40) (attempts : Nat) : Prop :=
  t.resValid = valid ∧ t.resStatus = kind ∧ t.resTdiag = diag ∧ t.resFrame = fr ∧
    t.resAttempts = attempts

/-- The step from `s` to `t` kept the five result registers. -/
def ResultsKept (s t : State) : Prop :=
  t.ResultsAre s.resValid s.resStatus s.resTdiag s.resFrame s.resAttempts

/-- The step from `s` to `t` published a result of operation `i` and ended the read (44_retry R252). -/
def Publishes (i : Instr) (s t : State) : Prop :=
  t.fetch = .idle ∧ t.resValid = true ∧ t.resAttempts = s.attempt ∧
    ((i = .acklSeek ∧ t.resStatus = .timeout ∧ t.resTdiag = .noAckLow ∧ t.resFrame = 0#40) ∨
     (i = .ackhSeek ∧ t.resStatus = .timeout ∧ t.resTdiag = .noAckHigh ∧ t.resFrame = 0#40) ∨
     (i = .decode ∧ t.resStatus = .timeout ∧ t.resTdiag = .sampleStall ∧ t.resFrame = 0#40) ∨
     (i = .decode ∧ t.resStatus = .checksumMismatch ∧ t.resTdiag = .none ∧ t.resFrame = 0#40) ∨
     (i = .decode ∧ t.resStatus = .ok ∧ t.resTdiag = .none ∧ t.resFrame = frameWord t.frame))

section Results

variable {s t : State} {i : Instr}

/-- IDLE keeps the results with no request, and writes all five in either branch of one
(41_sequencer R162). -/
theorem Move.idle_results (h : Move s .idle t) :
    (s.inp.req = false ∧ ResultsKept s t) ∨
    (s.inp.req = true ∧ s.inp.gpioReady = true ∧ t.ResultsAre false .ok .none 0#40 0) ∨
    (s.inp.req = true ∧ s.inp.gpioReady = false ∧
      t.ResultsAre true .driverInitFailure .none 0#40 0) := by
  cases h with
  | idleWait hr => exact .inl ⟨hr, rfl, rfl, rfl, rfl, rfl⟩
  | idleAccept hr hg => exact .inr (.inl ⟨hr, hg, rfl, rfl, rfl, rfl, rfl⟩)
  | idleNotReady hr hg => exact .inr (.inr ⟨hr, hg, rfl, rfl, rfl, rfl, rfl⟩)

/-- Every branch outside IDLE publishes, or keeps the results and does not enter IDLE. -/
theorem Move.keeps_or_publishes (h : Move s i t) (hi : i ≠ .idle) :
    (ResultsKept s t ∧ (s.fetch ≠ .idle → t.fetch ≠ .idle)) ∨ Publishes i s t := by
  cases h with
  | idleWait | idleAccept | idleNotReady => exact absurd rfl hi
  | acklReport => exact .inr ⟨fetch_mk_encode .., rfl, rfl, .inl ⟨rfl, rfl, rfl, rfl⟩⟩
  | ackhReport => exact .inr ⟨fetch_mk_encode .., rfl, rfl, .inr (.inl ⟨rfl, rfl, rfl, rfl⟩)⟩
  | stallReport =>
    exact .inr ⟨fetch_mk_encode .., rfl, rfl, .inr (.inr (.inl ⟨rfl, rfl, rfl, rfl⟩))⟩
  | mismatchReport =>
    exact .inr ⟨fetch_mk_encode .., rfl, rfl, .inr (.inr (.inr (.inl ⟨rfl, rfl, rfl, rfl⟩)))⟩
  | decodeOk =>
    exact .inr ⟨fetch_mk_encode .., rfl, rfl, .inr (.inr (.inr (.inr ⟨rfl, rfl, rfl, rfl⟩)))⟩
  | lowRequest | lowWait | highRequest | highWait | coolRequest | coolWait | acklMiss | ackhMiss
  | acklStay | ackhStay | lowCount | highCount => exact .inl ⟨⟨rfl, rfl, rfl, rfl, rfl⟩, id⟩
  | _ => exact .inl ⟨⟨rfl, rfl, rfl, rfl, rfl⟩, fun _ => by simp⟩

end Results

end Sys2Proof.Machine

namespace Sys2Proof.Proofs

open Sys2Proof.Machine

/-- Settles O27: wire bit `k` stands in byte `k div 8` at bit `7 - k mod 8`, in the slice and in the packed
frame alike. -/
theorem wireBitsArriveMostSignificantFirst : Obligations.WireBitsArriveMostSignificantFirst := by
  intro tr k hk
  rw [frameWord_getLsbD _ k hk, sliceFrame_getLsbD tr k hk]

/-- Settles O33: IDLE by its three branches, any other operation by whether its branch publishes. -/
theorem resultsArePublishedWhole : Obligations.ResultsArePublishedWhole := by
  intro i s t h
  have hm := exec_move h
  refine ⟨?_, fun hi => ?_⟩
  · rintro rfl
    rcases hm.idle_results with ⟨hr, hk⟩ | ⟨hr, hg, hw⟩ | ⟨hr, hg, hw⟩ <;> simp only [hr]
    · exact ⟨fun _ => hk, nofun, nofun⟩
    · exact ⟨nofun, fun _ _ => hw, fun _ hn => absurd hg (ne_true_of_eq_false hn)⟩
    · exact ⟨nofun, fun _ hy => absurd hg (ne_false_of_eq_true hy), fun _ _ => hw⟩
  · rcases hm.keeps_or_publishes hi with ⟨hk, hbusy⟩ | hp
    · exact ⟨.inl hk, fun hs ht => absurd ht (hbusy hs)⟩
    · exact ⟨.inr hp, fun _ _ => hp⟩

end Sys2Proof.Proofs

/-!
PROOF. The obligations of 30_encoding: the codes of the control states, what a step drives on the ports, and
which inputs an operation reads.
-/

namespace Sys2Proof

/-! ### Codes of the control states as bytes and as table words -/

/-- A byte with a 4-bit code in its low bits and zeros above names the state of that code (30_encoding R101,
R102). -/
theorem decodeBytes_code (c : StCode) (rest : List Byte) :
    decodeBytes (c.setWidth 8 :: rest) = .ok (decodeCode c, rest) := by
  have hc : (c.setWidth 8).toNat = c.toNat := BitVec.toNat_setWidth_of_le (by decide)
  rw [decodeBytes, hc, if_pos c.isLt, BitVec.ofNat_toNat, BitVec.setWidth_eq]

/-- A state code has four bits, so a byte of 16 or more names no state (30_encoding R100). -/
theorem decodeBytes_of_ge {b : Byte} (h : 16 ≤ b.toNat) (rest : List Byte) :
    decodeBytes (b :: rest) = .error .upperBitsSet :=
  if_neg (Nat.not_lt.mpr h)

/-- The word of a state in the code table decodes to it (30_encoding R101). -/
theorem decodeTableWord_code (i : Instr) : decodeTableWord 8 (encode i).toNat = some i := by
  have hbyte : decodeBytes (littleEndianBytes 1 (encode i).toNat) = .ok (i, []) := by
    rw [littleEndianBytes, littleEndianBytes, BitVec.ofNat_toNat, decodeBytes_code, decodeCode_encode]
  rw [decodeTableWord, hbyte]
  rfl

/-- A one-byte word of 16 or more is in no row of the code table (30_encoding R100). -/
theorem decodeTableWord_of_ge {w : Nat} (h : 16 ≤ w) (hw : w < 256) : decodeTableWord 8 w = none := by
  have hbyte : decodeBytes (littleEndianBytes 1 w) = .error .upperBitsSet :=
    decodeBytes_of_ge (by simpa [Nat.mod_eq_of_lt hw] using h) []
  rw [decodeTableWord, hbyte]

/-! ### What the table of the states says of a step -/

/-- The column "GPIO primitive issued" of the state table (30_encoding R101). -/
def Instr.primitive : Instr → Machine.GpioOp
  | .hsCfgOut => .cfgOutput
  | .hsDriveLow => .writeLow
  | .hsDriveHigh => .writeHigh
  | .hsCfgIn => .cfgInput
  | .hsPullup => .setPullUp
  | .acklSeek | .acklExit | .ackhSeek | .ackhExit | .sampleLow | .sampleHigh => .readLevel
  | .idle | .hsHoldLow | .hsHoldHigh | .decode | .cooldown => .nop

/-- The duration that a hold state waits for; the other states wait for none (41_sequencer R166, R168,
44_retry R251). -/
def Instr.holdUs (p : Config.Params) : Instr → Option Nat
  | .hsHoldLow => some p.pTStartLowUs
  | .hsHoldHigh => some p.pTReleaseUs
  | .cooldown => some p.pTCooldownUs
  | .idle | .hsCfgOut | .hsDriveLow | .hsDriveHigh | .hsCfgIn | .hsPullup | .acklSeek | .acklExit
  | .ackhSeek | .ackhExit | .sampleLow | .sampleHigh | .decode => none

/-- The line is read in the sampling states and in no other (41_sequencer R163). -/
theorem Instr.primitive_eq_readLevel_iff (i : Instr) : i.primitive = .readLevel ↔ i.isSampling = true := by
  cases i <;> decide

/-- A hold state issues no primitive. -/
theorem Instr.primitive_of_isHold {i : Instr} (h : i.isHold = true) : i.primitive = .nop := by
  cases i with
  | hsHoldLow | hsHoldHigh | cooldown => rfl
  | _ => cases h

/-- The hold states are those with a duration. -/
theorem Instr.isSome_holdUs (p : Config.Params) (i : Instr) : (i.holdUs p).isSome = i.isHold := by
  cases i <;> rfl

/-- Which duration belongs to which hold state. -/
theorem Instr.holdUs_eq_some {p : Config.Params} {i : Instr} {us : Nat} (h : i.holdUs p = some us) :
    (i = .hsHoldLow ∧ us = p.pTStartLowUs) ∨ (i = .hsHoldHigh ∧ us = p.pTReleaseUs) ∨
      (i = .cooldown ∧ us = p.pTCooldownUs) := by
  cases i with
  | hsHoldLow => exact .inl ⟨rfl, (Option.some.inj h).symm⟩
  | hsHoldHigh => exact .inr (.inl ⟨rfl, (Option.some.inj h).symm⟩)
  | cooldown => exact .inr (.inr ⟨rfl, (Option.some.inj h).symm⟩)
  | _ => cases h

namespace Machine

section Outputs

variable {s t : State} {i : Instr}

/-- Every branch of an operation issues the primitive of its row in the state table (30_encoding R101). -/
theorem Move.gpioOp_eq (h : Move s i t) : t.out.gpioOp = i.primitive := by
  cases h <;> rfl

/-- A step requests the duration of its state exactly when nothing is pending (41_sequencer R161). -/
theorem Move.dlyReq_eq (h : Move s i t) :
    t.out.dlyReq = if s.dlyPend = true then none else i.holdUs s.params := by
  cases h with
  | lowRequest hp | highRequest hp | coolRequest hp | lowDone hp | highDone hp | coolDone hp
  | lowWait hp | highWait hp | coolWait hp => rw [hp]; rfl
  | _ => exact (ite_self _).symm

/-- A request is pending after the step that makes it (41_sequencer R161). -/
theorem Move.dlyPend_of_dlyReq {us : Nat} (h : Move s i t) (hus : t.out.dlyReq = some us) :
    t.dlyPend = true := by
  cases h with
  | lowRequest | highRequest | coolRequest => rfl
  | _ => cases hus

end Outputs

/-! ### The codes of the ports -/

/-- A flag's port is 1 when the flag is set. -/
theorem flagBit_eq_ite (b : Bool) : flagBit b = if b = true then 1#1 else 0#1 := by
  cases b <;> rfl

/-- A flag's port is 1 exactly when the flag is set. -/
theorem flagBit_eq_one_iff (b : Bool) : flagBit b = 1#1 ↔ b = true := by
  cases b <;> decide

/-- Of the codes that R105 reserves, 100 alone names a kind, which the block never produces (30_encoding
R103). -/
theorem ResultKind.code_not_reserved (k : ResultKind) : k.code ∉ [0b101#3, 0b110#3, 0b111#3] := by
  cases k <;> decide

/-- Code 100 is that of `INVALID_ARGUMENT` (30_encoding R103). -/
theorem ResultKind.eq_invalidArgument_of_code {k : ResultKind} (h : k.code = 0b100#3) :
    k = .invalidArgument := by
  cases k with
  | invalidArgument => rfl
  | _ => cases h

/-- The reserved code 111 names no primitive (30_encoding R112). -/
theorem GpioOp.code_ne_reserved (g : GpioOp) : g.code ≠ 0b111#3 := by
  cases g <;> decide

/-! ### The bytes of the packed frame -/

/-- Byte `k` of a packed frame, from the top, is `f[k]` (20_memory R77). -/
theorem frameWord_extract_byte (f : Vector Byte 5) (k : Nat) (hk : k < 5) :
    (frameWord f).extractLsb' (32 - 8 * k) 8 = f[k] := by
  refine BitVec.eq_of_getLsbD_eq fun m hm => ?_
  have hbit := frameWord_getLsbD f (8 * k + (7 - m)) (by omega)
  have hpos : 39 - (8 * k + (7 - m)) = 32 - 8 * k + m := by omega
  have hdiv : (8 * k + (7 - m)) / 8 = k := by omega
  have hmod : 7 - (8 * k + (7 - m)) % 8 = m := by omega
  simp only [hpos, hdiv, hmod] at hbit
  rw [BitVec.getLsbD_extractLsb', hbit, decide_eq_true hm, Bool.true_and]

/-- Two adjacent bytes of a word, read at once (30_encoding R109). -/
theorem extract_two_bytes {w : Nat} (x : BitVec w) (n : Nat) :
    x.extractLsb' n 16 = x.extractLsb' (n + 8) 8 ++ x.extractLsb' n 8 := by
  rw [BitVec.extractLsb'_append_extractLsb'_eq_extractLsb' rfl]

/-! ### What an operation does under other inputs -/

/-- The state with other values on its input ports. -/
def State.withInputs (s : State) (x : Config.Inputs) : State := { s with inp := x }

section Inputs

variable {s t : State} {x : Config.Inputs}

/-- `Fail` reads no input (44_retry R250). -/
theorem fail_withInputs (s : State) (x : Config.Inputs) (k : ResultKind) (d : TimeoutDiag) :
    (s.withInputs x).fail k d = (s.fail k d).withInputs x := by
  show (if s.attempt < s.maxRetries then _ else _) = _
  rcases fail_cases s k d with ⟨ha, e⟩ | ⟨ha, e⟩
  · rw [e, if_pos ha]; rfl
  · rw [e, if_neg ha]; rfl

/-- `Hold` reads `dly_done` alone (41_sequencer R161). -/
theorem hold_withInputs {us : Nat} {next : Instr} {act : State → State}
    (hact : ∀ u : State, act (u.withInputs x) = (act u).withInputs x)
    (hx : x.dlyDone = s.inp.dlyDone) :
    (s.withInputs x).hold us next act = (s.hold us next act).withInputs x := by
  show (if s.dlyPend then if x.dlyDone then _ else _ else _) = _
  rcases hold_cases s us next act with ⟨hp, e⟩ | ⟨hp, hd, e⟩ | ⟨hp, hd, e⟩ <;> rw [e, hp]
  · rfl
  · rw [hx, hd]
    exact congrArg (State.goto · next) (hact { s.drive .nop none with dlyPend := false })
  · rw [hx, hd]
    rfl

/-- `SeekStep` reads the level alone (40_sampler R141). -/
theorem seekStep_withInputs {target : Level} {e : Instr} {d : TimeoutDiag}
    (hx : x.gpioLevel = s.inp.gpioLevel) :
    (s.withInputs x).seekStep target e d = (s.seekStep target e d).withInputs x := by
  show (if x.gpioLevel = target then _ else if s.cnt + 1 = s.params.pAckTimeout then _ else _) = _
  rw [hx]
  rcases seekStep_cases s target e d with ⟨hl, e⟩ | ⟨hl, hc, e⟩ | ⟨hl, hc, e⟩ <;> rw [e]
  · rw [if_pos hl]; rfl
  · rw [if_neg hl, if_pos hc]
    exact fail_withInputs ((s.drive .readLevel none).setCnt (s.cnt + 1)) x .timeout d
  · rw [if_neg hl, if_neg hc]; rfl

/-- `ExitStep` reads the level alone (40_sampler R142). -/
theorem exitStep_withInputs {target : Level} {next : Instr} {act : State → State}
    (hact : ∀ u : State, act (u.withInputs x) = (act u).withInputs x)
    (hx : x.gpioLevel = s.inp.gpioLevel) :
    (s.withInputs x).exitStep target next act = (s.exitStep target next act).withInputs x := by
  show (if x.gpioLevel = target then _ else _) = _
  rw [hx]
  rcases exitStep_cases s target next act with ⟨hl, e⟩ | ⟨hl, e⟩ <;> rw [e]
  · rw [if_pos hl]; rfl
  · rw [if_neg hl]
    exact congrArg (State.goto · next) (hact ((s.drive .readLevel none).setCnt 0))

/-- SAMPLE_HIGH's move reads no input (41_sequencer R176). -/
theorem nextBit_withInputs (s : State) (x : Config.Inputs) :
    (s.withInputs x).nextBit = s.nextBit.withInputs x := by
  show (if s.bi = 39#6 then _ else _) = _
  rcases nextBit_cases s with ⟨hb, e⟩ | ⟨hb, e⟩ <;> rw [e]
  · rw [if_pos hb]; rfl
  · rw [if_neg hb]; rfl

/-- `CountStep` reads the level alone (40_sampler R143). -/
theorem countStep_withInputs {l : Level} {j : Nat} {f : State → State}
    (hf : ∀ u : State, f (u.withInputs x) = (f u).withInputs x)
    (hx : x.gpioLevel = s.inp.gpioLevel) (h : s.countStep l j f = .next t) :
    (s.withInputs x).countStep l j f = .next (t.withInputs x) := by
  rcases countStep_cases h with ⟨hl, hc, rfl⟩ | ⟨v, hv, hj, rfl⟩
  · exact countStep_of_count (hx.trans hl) hc
  · have hv' : Records (s.withInputs x) l v := by rwa [← hx] at hv
    rw [countStep_of_records hv', record_of_lt hj]
    exact congrArg _ (hf { (s.drive .readLevel none).setCnt 0 with
      trace := s.trace.set j (narrow s.params.wCnt v) hj })

/-- IDLE reads the request port and `gpio_ready` (41_sequencer R162). -/
theorem execIdle_withInputs (hreq : x.req = s.inp.req) (hpin : x.reqPin = s.inp.reqPin)
    (hmax : x.reqMaxRetries = s.inp.reqMaxRetries) (hready : x.gpioReady = s.inp.gpioReady)
    (h : execIdle s = .next t) : execIdle (s.withInputs x) = .next (t.withInputs x) := by
  have hlatch : ((s.withInputs x).drive .nop none).latchRequest =
      (s.drive .nop none).latchRequest.withInputs x := by
    simp [State.latchRequest, State.drive, State.withInputs, State.reqPin, State.reqMaxRetries, hpin,
      hmax]
  show (if x.req then if x.gpioReady then _ else _ else _) = _
  rw [hreq, hready]
  rcases execIdle_cases s with ⟨hr, e⟩ | ⟨hr, hg, e⟩ | ⟨hr, hg, e⟩ <;>
    obtain rfl := Host.Outcome.next.inj (h.symm.trans e)
  · rw [hr]; rfl
  · rw [hr, hg, hlatch]; rfl
  · rw [hr, hg, hlatch]; rfl

/-- DECODE reads no input (42_decoder R204). -/
theorem execDecode_withInputs (h : execDecode s = .next t) :
    execDecode (s.withInputs x) = .next (t.withInputs x) := by
  show (if s.hasSentinel then _ else
    if checksum (sliceFrame s.trace) = (sliceFrame s.trace)[4] then _ else _) = _
  rcases execDecode_cases s with ⟨hs, e⟩ | ⟨hs, hc, e⟩ | ⟨hs, hc, e⟩ <;>
    (obtain rfl := Host.Outcome.next.inj (h.symm.trans e); rw [hs])
  · exact congrArg _ (fail_withInputs (s.drive .nop none) x .timeout .sampleStall)
  · rw [if_pos hc]; rfl
  · rw [if_neg hc]
    exact congrArg Host.Outcome.next (fail_withInputs { s.drive .nop none with frame := sliceFrame s.trace } x
      .checksumMismatch .none)

/-- What an operation answers depends on no input but those named for it (30_encoding R115). -/
theorem exec_withInputs {i : Instr} (h : exec i s = .next t)
    (hidle : i = .idle → x.req = s.inp.req ∧ x.reqPin = s.inp.reqPin ∧
      x.reqMaxRetries = s.inp.reqMaxRetries ∧ x.gpioReady = s.inp.gpioReady)
    (hhold : i.isHold = true → x.dlyDone = s.inp.dlyDone)
    (hsample : i.isSampling = true → x.gpioLevel = s.inp.gpioLevel) :
    exec i (s.withInputs x) = .next (t.withInputs x) := by
  cases i with
  | idle =>
    obtain ⟨hreq, hpin, hmax, hready⟩ := hidle rfl
    exact execIdle_withInputs hreq hpin hmax hready h
  | decode => exact execDecode_withInputs h
  | hsCfgOut | hsDriveLow | hsDriveHigh | hsCfgIn | hsPullup => injection h with h; subst h; rfl
  | hsHoldLow | hsHoldHigh | cooldown =>
    injection h with h; subst h
    exact congrArg _ (hold_withInputs (fun _ => rfl) (hhold rfl))
  | acklSeek | ackhSeek =>
    injection h with h; subst h
    exact congrArg _ (seekStep_withInputs (hsample rfl))
  | acklExit | ackhExit =>
    injection h with h; subst h
    exact congrArg _ (exitStep_withInputs (fun _ => rfl) (hsample rfl))
  | sampleLow => exact countStep_withInputs (fun _ => rfl) (hsample rfl) h
  | sampleHigh => exact countStep_withInputs (nextBit_withInputs · x) (hsample rfl) h

end Inputs

end Machine

end Sys2Proof

namespace Sys2Proof.Proofs

open Sys2Proof.Machine

/-- Settles O1: the byte of a state is its code with zeros above, the decoder inverts the encoder on the
sixteen codes, and a byte of 16 or more is rejected. -/
theorem decodeAndEncodeAgree : Obligations.DecodeAndEncodeAgree := by
  refine ⟨fun i rest _ => ?_, encode_decodeCode, fun _ rest h => decodeBytes_of_ge h rest,
    fun _ => decodeTableWord_of_ge⟩
  have hbyte := decodeBytes_code (encode i) rest
  rwa [decodeCode_encode] at hbyte

/-- Settles O2: each word is the code of the state that the table names. -/
theorem stateWordsAsTabled : Obligations.StateWordsAsTabled :=
  ⟨decodeTableWord_code .idle, decodeTableWord_code .hsCfgOut, decodeTableWord_code .hsHoldLow,
    decodeTableWord_code .hsPullup, decodeTableWord_code .acklSeek, decodeTableWord_code .ackhExit,
    decodeTableWord_code .sampleLow, decodeTableWord_code .decode, decodeTableWord_code .cooldown⟩

/-- Settles O3: every branch of an operation issues the primitive of its row. -/
theorem stateTableCodesAndPrimitives : Obligations.StateTableCodesAndPrimitives := by
  intro i s t h
  rw [(exec_move h).gpioOp_eq]
  exact ⟨by cases i <;> rfl, i.primitive_eq_readLevel_iff⟩

/-- Settles O4: with no reset, a step is the outcome of the operation and then the other agents. -/
theorem stepRunsDecodedState : Obligations.StepRunsDecodedState := fun s hp hr =>
  ⟨fun _ => step_of_exec hp hr,
    fun _ h => (step_of_not_rst hp hr).trans (congrArg (afterEdge s) h)⟩

/-- Settles O29: a raw word is two adjacent bytes of the packed frame. -/
theorem rawWordsAreFrameSlices : Obligations.RawWordsAreFrameSlices := by
  intro s f hf
  have hbyte := frameWord_extract_byte f
  rw [← hf] at hbyte
  refine ⟨?_, ?_, hbyte⟩
  · rw [State.resHumRaw, extract_two_bytes, hbyte 0 (by decide), hbyte 1 (by decide)]
  · rw [State.resTempRaw, extract_two_bytes, hbyte 2 (by decide), hbyte 3 (by decide)]

/-- Settles O35: each shared procedure reads only its own inputs. -/
theorem operationsReadOnlyTheirInputs : Obligations.OperationsReadOnlyTheirInputs :=
  fun _ _ _ _ => exec_withInputs

/-- Settles O36: a step requests the duration of its state, and only with nothing pending. -/
theorem delayRequestsComeFromHoldStates : Obligations.DelayRequestsComeFromHoldStates := by
  intro i s t us h hus
  have hm := exec_move h
  obtain ⟨hpend, hhold⟩ : ¬ s.dlyPend = true ∧ i.holdUs s.params = some us := by
    simpa [hm.dlyReq_eq] using hus
  have hi : i.isHold = true := by rw [← i.isSome_holdUs s.params, hhold]; rfl
  exact ⟨Bool.eq_false_of_not_eq_true hpend, hm.dlyPend_of_dlyReq hus,
    hm.gpioOp_eq.trans (Instr.primitive_of_isHold hi), Instr.holdUs_eq_some hhold⟩

/-- Settles O38: of the reserved codes only 100 names a kind, and the invariant excludes that kind. -/
theorem reservedCodesAreNeverDriven : Obligations.ReservedCodesAreNeverDriven := by
  intro s hinv
  obtain ⟨h101, h110, h111⟩ : s.resStatus.code ≠ 0b101#3 ∧ s.resStatus.code ≠ 0b110#3 ∧
      s.resStatus.code ≠ 0b111#3 := by
    simpa using s.resStatus.code_not_reserved
  exact ⟨fun h => hinv.kind_produced (ResultKind.eq_invalidArgument_of_code h), h101, h110, h111,
    s.out.gpioOp.code_ne_reserved⟩

/-- Settles O50, value by value of each field. -/
theorem portCodesAsTabled : Obligations.PortCodesAsTabled := by
  refine ⟨fun k => ?_, fun d => ?_, fun g => ?_, fun l => ?_, ResultKind.code_not_reserved,
    GpioOp.code_ne_reserved⟩
  · cases k <;> rfl
  · cases d <;> rfl
  · cases g <;> rfl
  · cases l <;> rfl

/-- Settles O51: the flags are single bits, and a raw word is a slice of `res_frame`. -/
theorem resultPortShowsTheRegisters : Obligations.ResultPortShowsTheRegisters := by
  intro s
  refine ⟨?_, flagBit_eq_ite _, rfl, rfl, rfl, rfl, ?_, ?_⟩
  · show flagBit s.busy = _
    rw [flagBit_eq_ite, State.busy]
    by_cases hst : s.st = 0x0#4 <;> simp [hst]
  · show s.resHumRaw.toNat = _
    rw [State.resHumRaw, BitVec.extractLsb'_toNat, Nat.shiftRight_eq_div_pow]
    have := s.resFrame.isLt
    omega
  · show s.resTempRaw.toNat = _
    rw [State.resTempRaw, BitVec.extractLsb'_toNat, Nat.shiftRight_eq_div_pow]

/-- Settles O52: the ports show the outputs of the step, which its row and its pending flag determine. -/
theorem gpioAndDelayPortsShowTheStep : Obligations.GpioAndDelayPortsShowTheStep := by
  intro i s t h
  have hm := exec_move h
  refine ⟨rfl, ?_, ?_, ?_⟩
  · rw [State.gpioPort, hm.gpioOp_eq]
    cases i <;> rfl
  · rw [State.dlyReqBit, flagBit_eq_one_iff, hm.dlyReq_eq, ← i.isSome_holdUs s.params]
    cases s.dlyPend <;> simp
  · rw [State.dlyReqBit, flagBit_eq_one_iff, Option.isSome_iff_exists]

end Sys2Proof.Proofs

/-!
PROOF. The obligations of 40_sampler: what runs of samples do to a seek, to an exit wait and to the measurement
of a low phase.
-/

namespace Sys2Proof.Machine

open Sys2Proof

/-! ### Runs of samples -/

section Feed

variable {s t u : State}

/-- One more sample after a run. -/
theorem feed_concat {xs : List Config.Inputs} {x : Config.Inputs} (h : feed xs s = .next t)
    (hx : stepWith x t = .next u) : feed (xs ++ [x]) s = .next u := by
  rw [feed_append h, feed_cons hx]
  rfl

/-- What holds after no sample, and after each sample if it held before it, holds after all of them. -/
theorem feed_induction {P : Nat → State → Prop} {xs : List Config.Inputs} (h0 : P 0 s)
    (hstep : ∀ n < xs.length, ∀ x ∈ xs, ∀ t, P n t → ∃ u, stepWith x t = .next u ∧ P (n + 1) u) :
    ∃ t, feed xs s = .next t ∧ P xs.length t := by
  induction xs using List.reverseRecOn with
  | nil => exact ⟨s, rfl, h0⟩
  | append_singleton xs x ih =>
    rw [List.length_append, List.length_singleton] at hstep ⊢
    obtain ⟨t, ht, hPt⟩ := ih fun n hn y hy =>
      hstep n (Nat.lt_succ_of_lt hn) y (List.mem_append_left _ hy)
    obtain ⟨u, hu, hPu⟩ := hstep xs.length (Nat.lt_succ_self _) x (by simp) t hPt
    exact ⟨u, feed_concat ht hu, hPu⟩

/-- Samples of one kind that spend a positive budget are one fewer of that kind, and a last one. -/
theorem exists_concat_of_forall {p : Config.Inputs → Prop} {xs : List Config.Inputs} {n : Nat}
    (hxs : ∀ x ∈ xs, p x) (hlen : xs.length = n) (hn : 0 < n) :
    ∃ ys y, xs = ys ++ [y] ∧ ys.length + 1 = n ∧ (∀ x ∈ ys, p x) ∧ p y := by
  obtain rfl | ⟨ys, y, rfl⟩ := List.eq_nil_or_concat' xs
  · exact absurd hlen hn.ne
  · obtain ⟨hys, hy⟩ := List.forall_mem_append.mp hxs
    exact ⟨ys, y, rfl, by simpa using hlen, hys, List.forall_mem_singleton.mp hy⟩

end Feed

/-! ### The acknowledge of a level

The two seeks run one procedure and the two exit waits another, so each is named by the level it awaits. -/

/-- The seek that awaits a level (41_sequencer R171, R173). -/
def ackSeek : Level → Instr
  | .low => .acklSeek
  | .high => .ackhSeek

/-- The exit wait of a level, where its seek ends (41_sequencer R172, R174). -/
def ackExit : Level → Instr
  | .low => .acklExit
  | .high => .ackhExit

/-- The diagnostic of the seek that awaits a level (41_sequencer R171, R173). -/
def noAckDiag : Level → TimeoutDiag
  | .low => .noAckLow
  | .high => .noAckHigh

section Ack

variable {s t u : State} {l : Level} {e next : Instr} {d : TimeoutDiag} {act : State → State}

/-- `SeekStep` at its target (40_sampler R141). -/
theorem seekStep_of_hit (hl : s.inp.gpioLevel = l) :
    s.seekStep l e d = (s.drive .readLevel none).goto e := if_pos hl

/-- `SeekStep` at a miss that leaves some of the budget (40_sampler R141). -/
theorem seekStep_of_miss (hl : s.inp.gpioLevel ≠ l) (hc : s.cnt + 1 ≠ s.params.pAckTimeout) :
    s.seekStep l e d = (s.drive .readLevel none).setCnt (s.cnt + 1) :=
  (if_neg hl).trans (if_neg hc)

/-- `SeekStep` at the last miss of the budget (40_sampler R141). -/
theorem seekStep_of_lastMiss (hl : s.inp.gpioLevel ≠ l) (hc : s.cnt + 1 = s.params.pAckTimeout) :
    s.seekStep l e d = ((s.drive .readLevel none).setCnt (s.cnt + 1)).fail .timeout d :=
  (if_neg hl).trans (if_pos hc)

/-- `ExitStep` while the line stays at its level (40_sampler R142). -/
theorem exitStep_of_wait (hl : s.inp.gpioLevel = l) :
    s.exitStep l next act = s.drive .readLevel none := if_pos hl

/-- Both seeks run `SeekStep` (40_sampler R141). -/
theorem exec_ackSeek (l : Level) (s : State) :
    exec (ackSeek l) s = .next (s.seekStep l (ackExit l) (noAckDiag l)) := by
  cases l <;> rfl

/-- Both exit waits run `ExitStep`, so each reads on while the line stays at its level (40_sampler R142). -/
theorem exec_ackExit_of_wait (hl : s.inp.gpioLevel = l) :
    exec (ackExit l) s = .next (s.drive .readLevel none) := by
  cases l <;> exact congrArg Host.Outcome.next (exitStep_of_wait hl)

/-- An exit wait is not IDLE. -/
theorem ackExit_ne_idle (l : Level) : ackExit l ≠ .idle := by
  cases l <;> decide

/-! ### A seek -/

/-- From `s` to `t` a seek missed `n` times and goes on. -/
structure Missed (s : State) (n : Nat) (t : State) : Prop where
  fetch : t.fetch = s.fetch
  params : t.params = s.params
  attempt : t.attempt = s.attempt
  maxRetries : t.maxRetries = s.maxRetries
  resValid : t.resValid = s.resValid
  cnt : t.cnt = s.cnt + n

/-- From `s` to `t` a seek with diagnostic `d` spent its budget: the attempt failed, into COOLDOWN while a retry
is left, and otherwise with a published TIMEOUT (44_retry R250). -/
def SeekFailed (d : TimeoutDiag) (s t : State) : Prop :=
  t.cnt = s.params.pAckTimeout ∧
    (s.attempt < s.maxRetries → t.fetch = .cooldown ∧ t.resValid = s.resValid) ∧
    (¬ s.attempt < s.maxRetries → t.Ended ∧ t.resStatus = .timeout ∧ t.resTdiag = d ∧
      t.resFrame = 0#40 ∧ t.resAttempts = s.attempt)

/-- A step of a seek is `SeekStep`, and then the other agents. -/
theorem stepWith_ackSeek {x : Config.Inputs} (hp : s.params.WellFormed) (hf : s.fetch = ackSeek l)
    (hx : x.rst = false) (he : { s with inp := x }.seekStep l (ackExit l) (noAckDiag l) = u) :
    stepWith x s = .next (advance { s with inp := x } u) :=
  stepWith_of_exec hp hx (by rw [hf, exec_ackSeek, he])

/-- One miss that leaves some of the budget. -/
theorem stepWith_miss {x : Config.Inputs} (hp : s.params.WellFormed) (hf : s.fetch = ackSeek l)
    (hx : x.rst = false) (hl : x.gpioLevel ≠ l) (hc : s.cnt + 1 < s.params.pAckTimeout) :
    ∃ t, stepWith x s = .next t ∧ Missed s 1 t :=
  ⟨_, stepWith_ackSeek hp hf hx (seekStep_of_miss hl hc.ne), rfl, rfl, rfl, rfl, rfl,
    narrow_of_lt (hc.trans hp.ack_lt)⟩

/-- The miss that spends the budget (40_sampler R141, 44_retry R250). -/
theorem stepWith_lastMiss {x : Config.Inputs} (hp : s.params.WellFormed) (hf : s.fetch = ackSeek l)
    (hx : x.rst = false) (hl : x.gpioLevel ≠ l) (hc : s.cnt + 1 = s.params.pAckTimeout) :
    ∃ t, stepWith x s = .next t ∧ SeekFailed (noAckDiag l) s t := by
  have hcnt : narrow s.params.wCnt (s.cnt + 1) = s.params.pAckTimeout := by
    rw [hc, narrow_of_lt hp.ack_lt]
  have hstep := stepWith_ackSeek hp hf hx (seekStep_of_lastMiss hl hc)
  refine ⟨_, hstep, ?_⟩
  obtain ⟨ha, e⟩ | ⟨ha, e⟩ :=
    fail_cases (({ s with inp := x }.drive .readLevel none).setCnt (s.cnt + 1)) .timeout (noAckDiag l)
  · rw [e]
    exact ⟨hcnt, fun _ => ⟨by simp, rfl⟩, fun hn => absurd ha hn⟩
  · rw [e]
    exact ⟨hcnt, fun hr => absurd hr ha, fun _ => ⟨⟨by simp, rfl⟩, rfl, rfl, rfl, rfl⟩⟩

/-- Misses compose. -/
theorem Missed.trans {m n : Nat} (hst : Missed s m t) (htu : Missed t n u) : Missed s (m + n) u :=
  ⟨htu.fetch.trans hst.fetch, htu.params.trans hst.params, htu.attempt.trans hst.attempt,
    htu.maxRetries.trans hst.maxRetries, htu.resValid.trans hst.resValid,
    by rw [htu.cnt, hst.cnt, Nat.add_assoc]⟩

/-- Missing first changes nothing of how a seek fails. -/
theorem Missed.seekFailed {n : Nat} (hst : Missed s n t) (htu : SeekFailed d t u) : SeekFailed d s u := by
  simpa only [SeekFailed, hst.params, hst.attempt, hst.maxRetries, hst.resValid] using htu

/-- Any number of misses below the budget. -/
theorem feed_miss {other : Level} {xs : List Config.Inputs} (ho : other ≠ l) (hp : s.params.WellFormed)
    (hf : s.fetch = ackSeek l) (hxs : ∀ x ∈ xs, Sees x other)
    (hc : s.cnt + xs.length < s.params.pAckTimeout) :
    ∃ t, feed xs s = .next t ∧ Missed s xs.length t := by
  refine feed_induction ⟨rfl, rfl, rfl, rfl, rfl, rfl⟩ fun n hn x hx t hst => ?_
  obtain ⟨hlevel, hrst⟩ := hxs x hx
  obtain ⟨u, hu, htu⟩ := stepWith_miss (hst.params ▸ hp) (hst.fetch.trans hf) hrst (hlevel ▸ ho)
    (by rw [hst.cnt, hst.params]; omega)
  exact ⟨u, hu, hst.trans htu⟩

/-- A seek that sees its target within the budget (40_sampler R141). -/
theorem feed_seek_hit {other : Level} {xs : List Config.Inputs} {y : Config.Inputs} (ho : other ≠ l)
    (hp : s.params.WellFormed) (hf : s.fetch = ackSeek l) (h0 : s.cnt = 0)
    (hlen : xs.length < s.params.pAckTimeout) (hxs : ∀ x ∈ xs, Sees x other) (hy : Sees y l) :
    ∃ t, feed (xs ++ [y]) s = .next t ∧ t.fetch = ackExit l ∧ t.cnt = xs.length := by
  obtain ⟨t, ht, hst⟩ := feed_miss ho hp hf hxs (by omega)
  have hhit := stepWith_ackSeek (hst.params ▸ hp) (hst.fetch.trans hf) hy.2 (seekStep_of_hit hy.1)
  exact ⟨_, feed_concat ht hhit, by simp, by simp [hst.cnt, h0]⟩

/-- A seek that spends its budget (40_sampler R141). -/
theorem feed_seek_fail {other : Level} {xs : List Config.Inputs} (ho : other ≠ l)
    (hp : s.params.WellFormed) (hf : s.fetch = ackSeek l) (h0 : s.cnt = 0)
    (hlen : xs.length = s.params.pAckTimeout) (hxs : ∀ x ∈ xs, Sees x other) :
    ∃ t, feed xs s = .next t ∧ SeekFailed (noAckDiag l) s t := by
  obtain ⟨ys, y, rfl, hlen, hys, hlevel, hrst⟩ := exists_concat_of_forall hxs hlen hp.ack_pos
  obtain ⟨t, ht, hst⟩ := feed_miss ho hp hf hys (by omega)
  obtain ⟨u, hu, htu⟩ := stepWith_lastMiss (hst.params ▸ hp) (hst.fetch.trans hf) hrst (hlevel ▸ ho)
    (by rw [hst.cnt, hst.params]; omega)
  exact ⟨u, feed_concat ht hu, hst.seekFailed htu⟩

/-! ### An exit wait -/

/-- From `s` to `t` the block waited where it was. -/
structure Waited (s t : State) : Prop where
  fetch : t.fetch = s.fetch
  params : t.params = s.params
  resValid : t.resValid = s.resValid

/-- One sample at the awaited level (40_sampler R142). -/
theorem stepWith_exit_wait {x : Config.Inputs} (hp : s.params.WellFormed) (hf : s.fetch = ackExit l)
    (hx : Sees x l) : ∃ t, stepWith x s = .next t ∧ Waited s t := by
  have hexec : exec s.fetch { s with inp := x } = .next ({ s with inp := x }.drive .readLevel none) := by
    rw [hf, exec_ackExit_of_wait hx.1]
  exact ⟨_, stepWith_of_exec hp hx.2 hexec, rfl, rfl, rfl⟩

/-- Any number of samples at the awaited level (40_sampler R142, 70_reset R317). -/
theorem feed_exit_wait {xs : List Config.Inputs} (hp : s.params.WellFormed) (hf : s.fetch = ackExit l)
    (hxs : ∀ x ∈ xs, Sees x l) : ∃ t, feed xs s = .next t ∧ Waited s t := by
  refine feed_induction (P := fun _ => Waited s) ⟨rfl, rfl, rfl⟩ fun n _ x hx t hst => ?_
  obtain ⟨u, hu, htu⟩ := stepWith_exit_wait (hst.params ▸ hp) (hst.fetch.trans hf) (hxs x hx)
  exact ⟨u, hu, htu.fetch.trans hst.fetch, htu.params.trans hst.params, htu.resValid.trans hst.resValid⟩

end Ack

/-! ### A phase at the cap -/

section Phase

variable {s : State} {l : Level}

/-- A phase that lasts the cap's number of samples records the cap (40_sampler R143). -/
theorem feed_measure_cap {xs : List Config.Inputs} (hp : s.params.WellFormed)
    (hf : s.fetch = phaseInstr l) (hb : s.bi.toNat ≤ 39) (h0 : s.cnt = 0)
    (hxs : ∀ x ∈ xs, Sees x l) (hlen : xs.length = s.params.pCap) :
    ∃ t, feed xs s = .next t ∧ Measured l s s.params.pCap t := by
  obtain ⟨ys, y, rfl, hlen, hys, hlevel, hrst⟩ := exists_concat_of_forall hxs hlen hp.cap_pos
  exact feed_measure hp hf hb h0 hys (by omega) hrst (.inl ⟨hlevel, hlen, rfl⟩)

/-- What a measured low phase leaves (41_sequencer R175). -/
theorem Measured.low {t : State} {v : Nat} (h : Measured .low s v t) (hj : 2 * s.bi.toNat < 80) :
    t.fetch = .sampleHigh ∧ t.cnt = 0 ∧ t.bi = s.bi ∧ t.trace = s.trace.set (2 * s.bi.toNat) v hj := by
  obtain ⟨hfetch, hbi⟩ := Prod.mk.inj h.moved
  exact ⟨hfetch, h.cnt, hbi, h.trace hj⟩

end Phase

end Sys2Proof.Machine

namespace Sys2Proof.Proofs

open Sys2Proof.Machine

/-- Settles O43: the misses below the budget are counted, and the target then leads to the exit wait. -/
theorem seekSucceedsWithinBudget : Obligations.SeekSucceedsWithinBudget := fun _ _ _ hp h0 hlen =>
  ⟨fun hf => feed_seek_hit (l := .low) nofun hp hf h0 hlen,
    fun hf => feed_seek_hit (l := .high) nofun hp hf h0 hlen⟩

/-- Settles O44: all misses but the last are counted, and the last one fails the attempt. -/
theorem seekFailsAtBudget : Obligations.SeekFailsAtBudget := fun _ _ hp h0 hlen =>
  ⟨fun hf => feed_seek_fail (l := .low) nofun hp hf h0 hlen,
    fun hf => feed_seek_fail (l := .high) nofun hp hf h0 hlen⟩

/-- Settles O45: each sample at the awaited level leaves the exit wait as it was, and it is not IDLE. -/
theorem exitWaitsCanLastForAnyTime : Obligations.ExitWaitsCanLastForAnyTime := by
  intro s xs hp
  have hwait (l : Level) (hf : s.fetch = ackExit l) (hxs : ∀ x ∈ xs, Sees x l) :
      ∃ t, feed xs s = .next t ∧ t.fetch = ackExit l ∧ t.busy = true ∧ t.resValid = s.resValid := by
    obtain ⟨t, ht, hst⟩ := feed_exit_wait hp hf hxs
    have hft : t.fetch = ackExit l := hst.fetch.trans hf
    exact ⟨t, ht, hft, (busyMeansNotIdle t).mpr (hft ▸ ackExit_ne_idle l), hst.resValid⟩
  exact ⟨hwait .low, hwait .high⟩

/-- Settles O46: a low phase is ended by a sample at HIGH with its count, or by its last sample at the cap. -/
theorem lowPhaseRecordsItsRun : Obligations.LowPhaseRecordsItsRun := by
  intro s xs hb hp hf h0 hxs
  refine ⟨fun y hy hlen => ?_, fun hlen => ?_⟩
  · have hrecords : Records { s with inp := y, cnt := xs.length } .low xs.length :=
      .inr ⟨by simp [hy.1], rfl⟩
    obtain ⟨t, ht, hm⟩ := feed_measure (l := .low) hp hf hb h0 hxs hlen hy.2 hrecords
    exact ⟨t, ht, hm.low (by omega)⟩
  · obtain ⟨t, ht, hm⟩ := feed_measure_cap (l := .low) hp hf hb h0 hxs hlen
    exact ⟨t, ht, hm.low (by omega)⟩

end Sys2Proof.Proofs

/-!
PROOF. The obligations of 41_sequencer: what each state's step does, the start signal, and that sampling
goes on to DECODE whatever the line does.
-/

namespace Sys2Proof.Machine

open Sys2Proof

/-! ### Whole next states -/

section NextStates

variable {s : State} {l : Level} {v : Nat}

/-- HS_PULLUP, with its whole next state (41_sequencer R170). -/
theorem exec_hsPullup (s : State) :
    exec .hsPullup s =
      .next { s with out := ⟨.setPullUp, none⟩, cnt := 0, st := encode .acklSeek } := by
  change Host.Outcome.next (((s.drive .setPullUp none).setCnt 0).goto .acklSeek) = _
  rw [setCnt_zero]
  rfl

/-- A hold state that only moves on, with its whole next state (41_sequencer R161). -/
theorem hold_id_eq (s : State) (us : Nat) (next : Instr) :
    s.hold us next id =
      if s.dlyPend = false then { s with out := ⟨.nop, some us⟩, dlyPend := true }
      else if s.inp.dlyDone = true then { s with out := .quiet, dlyPend := false, st := encode next }
      else { s with out := .quiet } := by
  obtain ⟨hp, e⟩ | ⟨hp, hd, e⟩ | ⟨hp, hd, e⟩ := hold_cases s us next id
  · rw [e, if_pos hp]; rfl
  · rw [e, if_neg (by simp [hp]), if_pos hd]; rfl
  · rw [e, if_neg (by simp [hp]), if_neg (by simp [hd])]; rfl

/-- Reading the line and counting a sample, while the count has not spent the larger budget (10_state R35). -/
theorem read_setCnt_succ (hp : s.params.WellFormed)
    (hc : s.cnt < s.params.pCap ∨ s.cnt < s.params.pAckTimeout) :
    (s.drive .readLevel none).setCnt (s.cnt + 1) =
      { s with out := ⟨.readLevel, none⟩, cnt := s.cnt + 1 } := by
  unfold State.setCnt
  rw [State.drive_params, narrow_cnt_succ hp hc]
  rfl

/-- A seek with its whole next state (40_sampler R141, 44_retry R250). -/
theorem exec_ackSeek_eq (l : Level) (hp : s.params.WellFormed) (hc : s.cnt < s.params.pAckTimeout) :
    exec (ackSeek l) s = .next
      (if s.inp.gpioLevel = l then { s with out := ⟨.readLevel, none⟩, st := encode (ackExit l) }
      else if s.cnt + 1 = s.params.pAckTimeout then
        (if s.attempt < s.maxRetries then
          { s with out := ⟨.readLevel, none⟩, cnt := s.cnt + 1, st := encode .cooldown }
        else
          { s with
            out := ⟨.readLevel, none⟩, cnt := s.cnt + 1, st := encode .idle
            resValid := true, resStatus := .timeout, resTdiag := noAckDiag l
            resFrame := 0#40, resAttempts := s.attempt })
      else { s with out := ⟨.readLevel, none⟩, cnt := s.cnt + 1 }) := by
  have hcnt := read_setCnt_succ hp (.inr hc)
  rw [exec_ackSeek]
  congr 1
  split_ifs with hl hlast hretry
  · exact seekStep_of_hit hl
  · rw [seekStep_of_lastMiss hl hlast, hcnt]
    exact if_pos hretry
  · rw [seekStep_of_lastMiss hl hlast, hcnt]
    exact if_neg hretry
  · exact (seekStep_of_miss hl hlast).trans hcnt

/-- `ExitStep` when the line leaves its level (40_sampler R142). -/
theorem exitStep_of_leave {next : Instr} {act : State → State} (hl : s.inp.gpioLevel ≠ l) :
    s.exitStep l next act = (act { s with out := ⟨.readLevel, none⟩, cnt := 0 }).goto next := by
  refine (if_neg hl).trans ?_
  rw [setCnt_zero]
  rfl

/-- A sample at the measured level below the cap, with its whole next state (40_sampler R143). -/
theorem exec_phaseInstr_of_count (hp : s.params.WellFormed) (hc : s.cnt < s.params.pCap)
    (hl : s.inp.gpioLevel = l) (hcap : s.cnt + 1 ≠ s.params.pCap) :
    exec (phaseInstr l) s = .next { s with out := ⟨.readLevel, none⟩, cnt := s.cnt + 1 } := by
  rw [exec_phaseInstr, countStep_of_count hl hcap]
  exact congrArg Host.Outcome.next (read_setCnt_succ hp (.inl hc))

/-- The sample that ends a measurement, with its whole next state (40_sampler R143). -/
theorem exec_phaseInstr_of_records (hp : s.params.WellFormed) (hj : phaseIndex l s.bi < 80)
    (hv : Records s l v) (hcap : v ≤ s.params.pCap) :
    exec (phaseInstr l) s = .next (phaseDone l
      { s with
        out := ⟨.readLevel, none⟩, cnt := 0, trace := s.trace.set (phaseIndex l s.bi) v hj }) := by
  rw [exec_phaseInstr, countStep_of_records hv, record_of_lt hj, setCnt_zero,
    show narrow (s.drive .readLevel none).params.wCnt v = v from narrow_of_lt (hcap.trans_lt hp.cap_lt)]
  rfl

/-- SAMPLE_HIGH's move, with its whole next state (41_sequencer R176). -/
theorem nextBit_eq (s : State) :
    s.nextBit =
      { s with
        bi := if s.bi.toNat = 39 then s.bi else s.bi + 1#6
        st := if s.bi.toNat = 39 then encode .decode else encode .sampleLow } := by
  obtain ⟨hb, e⟩ | ⟨hb, e⟩ := nextBit_cases s
  · have h39 : s.bi.toNat = 39 := congrArg BitVec.toNat hb
    rw [e, if_pos h39, if_pos h39]; rfl
  · have h39 : s.bi.toNat ≠ 39 := by bv_omega
    rw [e, if_neg h39, if_neg h39]; rfl

end NextStates

/-! ### The start signal -/

section StartSignal

variable {s t u : State} {xs ys : List Config.Inputs} {os ps : List Outputs}

/-- The outputs of a run are those of its first part and then of its second. -/
theorem feedOutputs_append (h : feed xs s = .next t) :
    feedOutputs (xs ++ ys) s = feedOutputs xs s ++ feedOutputs ys t := by
  induction xs generalizing s with
  | nil => cases h; rfl
  | cons x xs ih =>
    cases hx : stepWith x s with
    | next u =>
      rw [feed_cons hx] at h
      rw [List.cons_append, feedOutputs_cons hx, feedOutputs_cons hx, ih h, List.cons_append]
    | fault r => cases r
    | refused r => simp [feed, hx] at h

/-- A run under `xs` takes the block from `s` to `t`, drives `os` on the way, and keeps what a start signal
keeps. -/
structure Drives (xs : List Config.Inputs) (os : List Outputs) (s t : State) : Prop where
  feed : feed xs s = .next t
  outputs : feedOutputs xs s = os
  params : t.params = s.params
  pin : t.pin = s.pin
  attempt : t.attempt = s.attempt
  trace : t.trace = s.trace

/-- The run of no step. -/
theorem Drives.nil (s : State) : Drives [] [] s s := ⟨rfl, rfl, rfl, rfl, rfl, rfl⟩

variable {x y : Config.Inputs} {i next : Instr}

/-- One step more, of a state that is neither IDLE nor COOLDOWN and records nothing. -/
theorem Drives.step (h : Drives xs os s t) (hp : s.params.WellFormed) (hf : t.fetch = i)
    (hx : x.rst = false) (hi : i ∉ [.idle, .cooldown, .sampleLow, .sampleHigh])
    (he : exec i { t with inp := x } = .next u) :
    Drives (xs ++ [x]) (os ++ [u.out]) s (advance { t with inp := x } u) := by
  have hstep := stepWith_of_exec (h.params ▸ hp) hx (hf ▸ he)
  have hm := exec_move he
  simp only [List.mem_cons, List.not_mem_nil, or_false, not_or] at hi
  obtain ⟨hidle, hcool, hlow, hhigh⟩ := hi
  refine ⟨feed_concat h.feed hstep, ?_, hm.params_eq.trans h.params,
    (hm.latches_kept hidle).1.trans h.pin, (hm.attempt_kept hidle hcool).trans h.attempt,
    (hm.trace_kept hlow hhigh).trans h.trace⟩
  rw [feedOutputs_append h.feed, h.outputs, feedOutputs_cons hstep]
  rfl

/-- One step more, of a state whose rule is one primitive and a move (41_sequencer R164, R165, R167, R169). -/
theorem Drives.primitive {op : GpioOp} (h : Drives xs os s t) (hp : s.params.WellFormed)
    (hf : t.fetch = i) (hd : t.dlyPend = false) (hx : x.rst = false)
    (hi : i ∉ [.idle, .cooldown, .sampleLow, .sampleHigh])
    (he : ∀ v, exec i v = .next ((v.drive op none).goto next)) :
    ∃ u, Drives (xs ++ [x]) (os ++ [⟨op, none⟩]) s u ∧ u.fetch = next ∧ u.dlyPend = false :=
  ⟨_, h.step hp hf hx hi (he _), by simp, hd⟩

/-- Two steps more, of a hold state that requests its delay, is answered at once and moves on (41_sequencer
R161). -/
theorem Drives.hold {us : Config.Params → Nat} (h : Drives xs os s t) (hp : s.params.WellFormed)
    (hf : t.fetch = i) (hd : t.dlyPend = false) (hx : x.rst = false) (hy : y.rst = false)
    (hdone : y.dlyDone = true) (hi : i ∉ [.idle, .cooldown, .sampleLow, .sampleHigh])
    (he : ∀ v, exec i v = .next (v.hold (us v.params) next id)) :
    ∃ u, Drives (xs ++ [x] ++ [y]) (os ++ [⟨.nop, some (us s.params)⟩] ++ [.quiet]) s u ∧
      u.fetch = next ∧ u.dlyPend = false := by
  obtain ⟨v, hv, hfv, hdv⟩ : ∃ v, Drives (xs ++ [x]) (os ++ [⟨.nop, some (us s.params)⟩]) s v ∧
      v.fetch = i ∧ v.dlyPend = true := by
    rw [← h.params]
    exact ⟨_, h.step hp hf hx hi (by rw [he, hold_id_eq, if_pos hd]), by simpa using hf, rfl⟩
  exact ⟨_, hv.step hp hfv hy hi (by rw [he, hold_id_eq, if_neg (by simp [hdv]), if_pos hdone]),
    by simp, rfl⟩

end StartSignal

/-! ### Sampling under any line -/

section AnyLine

variable {s t u : State} {xs ys zs : List Config.Inputs} {a b c d : Nat}

/-- Some first samples of `xs`, at least `a` and at most `b`, lead from `s` to `t` and leave `ys`. -/
def Uses (xs ys : List Config.Inputs) (a b : Nat) (s t : State) : Prop :=
  ∃ zs, xs = zs ++ ys ∧ a ≤ zs.length ∧ zs.length ≤ b ∧ feed zs s = .next t

/-- Such runs compose, and their bounds add. -/
theorem Uses.trans (hst : Uses xs ys a b s t) (htu : Uses ys zs c d t u) :
    Uses xs zs (a + c) (b + d) s u := by
  obtain ⟨as, rfl, ha, hb, hfeed⟩ := hst
  obtain ⟨bs, rfl, hc, hd, hfeed'⟩ := htu
  refine ⟨as ++ bs, (List.append_assoc ..).symm, ?_, ?_, (feed_append hfeed).trans hfeed'⟩ <;>
    (rw [List.length_append]; omega)

/-- The bounds may be widened. -/
theorem Uses.mono (h : Uses xs ys a b s t) (ha : c ≤ a) (hb : b ≤ d) : Uses xs ys c d s t := by
  obtain ⟨zs, rfl, hlo, hhi, hfeed⟩ := h
  exact ⟨zs, rfl, ha.trans hlo, hhi.trans hb, hfeed⟩

/-- One sample used. -/
theorem uses_step {x : Config.Inputs} (h : stepWith x s = .next t) : Uses (x :: xs) xs 1 1 s t :=
  ⟨[x], rfl, le_rfl, le_rfl, feed_cons h⟩

/-- What is left is of the samples, and all but at most `b` of them. -/
theorem Uses.left (h : Uses xs ys a b s t) : (∀ x ∈ ys, x ∈ xs) ∧ xs.length ≤ b + ys.length := by
  obtain ⟨zs, rfl, -, hb, -⟩ := h
  exact ⟨fun x => List.mem_append_right zs, by rw [List.length_append]; omega⟩

/-- Whatever the line does, a measurement below its cap ends within the samples left to the cap, with a value
of at most the cap (40_sampler R143). By induction on the samples: each is counted or ends the measurement. -/
theorem exists_measured {l : Level} (hp : s.params.WellFormed) (hf : s.fetch = phaseInstr l)
    (hb : s.bi.toNat ≤ 39) (hc : s.cnt < s.params.pCap) (hxs : ∀ x ∈ xs, x.rst = false)
    (hlen : s.params.pCap ≤ s.cnt + xs.length) :
    ∃ ys t v, Uses xs ys 1 (s.params.pCap - s.cnt) s t ∧ Measured l s v t ∧ v ≤ s.params.pCap := by
  induction xs generalizing s with
  | nil => rw [List.length_nil] at hlen; omega
  | cons x xs ih =>
    obtain ⟨hx, hxs⟩ := List.forall_mem_cons.mp hxs
    rw [List.length_cons] at hlen
    by_cases hgo : x.gpioLevel = l ∧ s.cnt + 1 ≠ s.params.pCap
    · obtain ⟨u, hu, hsu⟩ := stepWith_count hp hf ⟨hgo.1, hx⟩ (by omega)
      have hcnt := hsu.cnt
      have hpu := hsu.params
      obtain ⟨ys, t, v, huse, hm, hv⟩ := ih (hpu ▸ hp) (hsu.fetch.trans hf) (hsu.bi ▸ hb)
        (by rw [hpu]; omega) hxs (by rw [hpu]; omega)
      rw [hpu] at huse hv
      exact ⟨ys, t, v, ((uses_step hu).trans huse).mono (by omega) (by omega), hsu.measured hm, hv⟩
    · obtain ⟨v, hrec, hv⟩ : ∃ v, Records { s with inp := x } l v ∧ v ≤ s.params.pCap := by
        by_cases hl : x.gpioLevel = l
        · exact ⟨_, .inl ⟨hl, not_not.mp fun h => hgo ⟨hl, h⟩, rfl⟩, le_rfl⟩
        · exact ⟨_, .inr ⟨hl, rfl⟩, hc.le⟩
      obtain ⟨t, ht, hm⟩ := stepWith_record hp hf hb hx hrec hv
      exact ⟨xs, t, v, (uses_step ht).mono le_rfl (by omega), hm, hv⟩

/-- A control state and a bit index at which `n` of the eighty phases are over: those of phase `n`, whose
entry is entry `n`, or DECODE (41_sequencer R176). -/
def AfterPhases (n : Nat) (m : Instr × BitVec 6) : Prop :=
  (n < 80 ∧ ∃ l, m.1 = phaseInstr l ∧ phaseIndex l m.2 = n) ∨ (n = 80 ∧ m.1 = .decode)

/-- The end of a phase leads to the next one, and that of the last to DECODE. -/
theorem afterPhases_succ {l : Level} {b : BitVec 6} (hj : phaseIndex l b < 80) :
    AfterPhases (phaseIndex l b + 1) (afterPhase l b) := by
  cases l with
  | low =>
    rw [phaseIndex] at hj
    exact .inl ⟨by rw [phaseIndex]; omega, .high, rfl, rfl⟩
  | high =>
    rw [phaseIndex] at hj
    by_cases hlast : b = 39#6
    · subst hlast
      exact .inr ⟨rfl, rfl⟩
    · have hlt : b.toNat < 39 := by bv_omega
      rw [afterPhase, if_neg hlast, phaseIndex]
      refine .inl ⟨by omega, .low, rfl, ?_⟩
      rw [phaseIndex, bi_succ_toNat hlt.le]
      omega

/-- The block has measured `n` phases of a line, and their entries are at most the cap (41_sequencer R177). -/
structure Sampled (p : Config.Params) (n : Nat) (t : State) : Prop where
  params : t.params = p
  moved : AfterPhases n (t.fetch, t.bi)
  cnt : t.cnt = 0
  written : Written t.trace p.pCap n

/-- Whatever the line does, the next phase is measured within `P_CAP` samples. -/
theorem Sampled.next {p : Config.Params} {n : Nat} (h : Sampled p n s) (hn : n < 80) (hp : p.WellFormed)
    (hxs : ∀ x ∈ xs, x.rst = false) (hlen : p.pCap ≤ xs.length) :
    ∃ ys t, Uses xs ys 1 p.pCap s t ∧ Sampled p (n + 1) t := by
  obtain ⟨rfl, ⟨-, l, hf, rfl⟩ | ⟨rfl, -⟩, hcnt, hwritten⟩ := h
  · have hb : s.bi.toNat ≤ 39 := by cases l <;> (simp only [phaseIndex] at hn; omega)
    have hcap := hp.cap_pos
    obtain ⟨ys, t, v, huse, hm, hv⟩ := exists_measured hp hf hb (by omega) hxs (by omega)
    refine ⟨ys, t, huse.mono le_rfl (Nat.sub_le ..), hm.params, ?_, hm.cnt, ?_⟩
    · rw [hm.moved]
      exact afterPhases_succ hn
    · rw [hm.trace hn]
      exact hwritten.set_succ hn hv rfl
  · exact absurd hn (lt_irrefl _)

/-- Whatever the line does, `n` phases are measured within `n * P_CAP` samples, by induction on `n`. -/
theorem exists_sampled (hp : s.params.WellFormed) (hf : s.fetch = .sampleLow) (hb : s.bi = 0#6)
    (h0 : s.cnt = 0) (hxs : ∀ x ∈ xs, x.rst = false) {n : Nat} (hn : n ≤ 80)
    (hlen : n * s.params.pCap ≤ xs.length) :
    ∃ ys t, Uses xs ys n (n * s.params.pCap) s t ∧ Sampled s.params n t := by
  induction n with
  | zero =>
    refine ⟨xs, s, ⟨[], rfl, le_rfl, Nat.zero_le _, rfl⟩, rfl, .inl ⟨by decide, .low, hf, ?_⟩, h0, ?_⟩
    · rw [hb]; rfl
    · exact fun j _ hj => absurd hj (Nat.not_lt_zero j)
  | succ n ih =>
    rw [Nat.succ_mul] at hlen ⊢
    obtain ⟨ys, u, huse, hu⟩ := ih (by omega) (by omega)
    obtain ⟨hmem, hleft⟩ := huse.left
    obtain ⟨zs, t, huse', ht⟩ := hu.next hn hp (fun x hx => hxs x (hmem x hx)) (by omega)
    exact ⟨zs, t, huse.trans huse', ht⟩

end AnyLine

end Sys2Proof.Machine

namespace Sys2Proof.Proofs

open Sys2Proof.Machine

/-- Settles O14: the three branches of R162; operands of the port's widths are latched whole. -/
theorem idleAcceptsOrReports : Obligations.IdleAcceptsOrReports := by
  rintro s ⟨hpin, hretries⟩
  have hpin' : s.reqPin = s.inp.reqPin := narrow_of_lt hpin
  have hretries' : s.reqMaxRetries = s.inp.reqMaxRetries := narrow_of_lt hretries
  rw [← hpin', ← hretries']
  change execIdle s = _
  obtain ⟨hr, e⟩ | ⟨hr, hg, e⟩ | ⟨hr, hg, e⟩ := execIdle_cases s
  · rw [e, if_pos hr]; rfl
  · rw [e, if_neg (by simp [hr]), if_neg (by simp [hg])]; rfl
  · rw [e, if_neg (by simp [hr]), if_pos hg]; rfl

/-- Settles O15: each state's rule is its primitive and its move; HS_PULLUP's 0 fits `cnt`. -/
theorem primitiveStatesIssueAndMoveOn : Obligations.PrimitiveStatesIssueAndMoveOn := fun s =>
  ⟨rfl, rfl, rfl, rfl, exec_hsPullup s⟩

/-- Settles O16: HS_HOLD_LOW is a wait that only moves on. -/
theorem holdLowRequestsWaitsMovesOn : Obligations.HoldLowRequestsWaitsMovesOn := fun s =>
  congrArg Host.Outcome.next (hold_id_eq s s.params.pTStartLowUs .hsDriveHigh)

/-- Settles O17: HS_HOLD_HIGH is a wait that only moves on. -/
theorem holdHighRequestsWaitsMovesOn : Obligations.HoldHighRequestsWaitsMovesOn := fun s =>
  congrArg Host.Outcome.next (hold_id_eq s s.params.pTReleaseUs .hsCfgIn)

/-- Settles O19: ACKL_SEEK is the seek that awaits LOW. -/
theorem ackLowSeekStep : Obligations.AckLowSeekStep := fun _ => exec_ackSeek_eq .low

/-- Settles O20: ACKH_SEEK is the seek that awaits HIGH. -/
theorem ackHighSeekStep : Obligations.AckHighSeekStep := fun _ => exec_ackSeek_eq .high

/-- Settles O21: `ExitStep` waits or leaves, and ACKH_EXIT clears `bi` on leaving. -/
theorem exitStatesWaitForTheOtherLevel : Obligations.ExitStatesWaitForTheOtherLevel := by
  refine fun s => ⟨congrArg Host.Outcome.next ?_, congrArg Host.Outcome.next ?_⟩
  all_goals
    split_ifs with hl
    · exact exitStep_of_wait hl
    · exact exitStep_of_leave hl

/-- Settles O22: a change of the line and the cap end the low phase, and a sample before them is counted. -/
theorem sampleLowStep : Obligations.SampleLowStep := by
  intro s hb hp hc
  split_ifs with hl hcap
  · exact exec_phaseInstr_of_records (l := .low) hp (phaseIndex_lt hb _) (.inr ⟨by simp [hl], rfl⟩) hc.le
  · exact exec_phaseInstr_of_records (l := .low) hp (phaseIndex_lt hb _)
      (.inl ⟨not_high hl, hcap, rfl⟩) le_rfl
  · exact exec_phaseInstr_of_count (l := .low) hp hc (not_high hl) hcap

/-- Settles O23: a sample that does not count ends the high phase, and then the bit. -/
theorem sampleHighStep : Obligations.SampleHighStep := by
  intro s hb hp hc
  by_cases hcount : s.inp.gpioLevel = .high ∧ s.cnt + 1 ≠ s.params.pCap
  · rw [if_pos hcount]
    exact exec_phaseInstr_of_count (l := .high) hp hc hcount.1 hcount.2
  · rw [if_neg hcount]
    have hrecords : Records s .high (if s.inp.gpioLevel = .high then s.params.pCap else s.cnt) := by
      split_ifs with hl
      · exact .inl ⟨hl, not_not.mp fun h => hcount ⟨hl, h⟩, rfl⟩
      · exact .inr ⟨hl, rfl⟩
    have hle : (if s.inp.gpioLevel = .high then s.params.pCap else s.cnt) ≤ s.params.pCap := by
      split_ifs <;> omega
    refine (exec_phaseInstr_of_records (l := .high) hp (phaseIndex_lt hb _) hrecords hle).trans ?_
    exact congrArg Host.Outcome.next (nextBit_eq _)

/-- Settles O49: each of the eighty phases takes at least one sample and at most `P_CAP`. -/
theorem samplingReachesDecode : Obligations.SamplingReachesDecode := by
  intro s xs hp hf hb h0 hxs hlen
  obtain ⟨ys, t, ⟨zs, rfl, hlo, -, ht⟩, hsampled⟩ := exists_sampled hp hf hb h0 hxs le_rfl hlen.ge
  obtain ⟨hlt, -⟩ | ⟨-, hdecode⟩ := hsampled.moved
  · exact absurd hlt (lt_irrefl _)
  · refine ⟨zs.length, hlo, by simp, t, ?_, hdecode, fun j hj => hsampled.written j hj hj⟩
    rwa [List.take_left]

/-- Settles O42: five states drive a primitive in one step each, and the two hold states wait two each. -/
theorem startSignalTakesNineSteps : Obligations.StartSignalTakesNineSteps := by
  intro s x1 x2 x3 x4 x5 x6 x7 x8 x9 hp hf hd hrst hdone4 hdone7
  simp only [List.forall_mem_cons, List.not_mem_nil, false_implies, implies_true, and_true] at hrst
  obtain ⟨r1, r2, r3, r4, r5, r6, r7, r8, r9⟩ := hrst
  obtain ⟨s1, h1, f1, d1⟩ := (Drives.nil s).primitive hp hf hd r1 (by decide) fun _ => rfl
  obtain ⟨s2, h2, f2, d2⟩ := h1.primitive hp f1 d1 r2 (by decide) fun _ => rfl
  obtain ⟨s4, h4, f4, d4⟩ :=
    h2.hold (us := (·.pTStartLowUs)) hp f2 d2 r3 r4 hdone4 (by decide) fun _ => rfl
  obtain ⟨s5, h5, f5, d5⟩ := h4.primitive hp f4 d4 r5 (by decide) fun _ => rfl
  obtain ⟨s7, h7, f7, d7⟩ :=
    h5.hold (us := (·.pTReleaseUs)) hp f5 d5 r6 r7 hdone7 (by decide) fun _ => rfl
  obtain ⟨s8, h8, f8, d8⟩ := h7.primitive hp f7 d7 r8 (by decide) fun _ => rfl
  have h9 := h8.step hp f8 r9 (by decide) (exec_hsPullup _)
  exact ⟨⟨_, h9.feed, by simp, rfl, d8, h9.pin, h9.attempt, h9.trace⟩, h9.outputs⟩

end Sys2Proof.Proofs

/-!
PROOF. The obligations of 42_decoder: the checksum, the two verdicts of the cap check, and that every frame
reads back from a trace that spells it.
-/

namespace Sys2Proof.Machine

open Sys2Proof

/-- The checksum is the exact sum mod 256: what it cuts off already fits a byte (42_decoder R203). -/
theorem checksum_toNat (f : Vector Byte 5) :
    (checksum f).toNat = (f[0].toNat + f[1].toNat + f[2].toNat + f[3].toNat) % 256 :=
  Nat.mod_mod _ 256

/-- A frame is valid exactly when its first four bytes sum to its last, mod 256 (42_decoder R203). -/
theorem checksum_eq_iff (f : Vector Byte 5) :
    checksum f = f[4] ↔ (f[0].toNat + f[1].toNat + f[2].toNat + f[3].toNat) % 256 = f[4].toNat := by
  rw [← BitVec.toNat_inj, checksum_toNat]

/-- Two frames with the same wire bits are equal (42_decoder R202). -/
theorem frame_eq_of_wireBits {f g : Vector Byte 5}
    (h : ∀ (k : Nat) (_ : k < 40), f[k / 8].getLsbD (7 - k % 8) = g[k / 8].getLsbD (7 - k % 8)) :
    f = g := by
  refine Vector.ext fun c hc => BitVec.eq_of_getLsbD_eq fun m hm => ?_
  have hbit := h (8 * c + (7 - m)) (by omega)
  have hdiv : (8 * c + (7 - m)) / 8 = c := by omega
  have hmod : 7 - (8 * c + (7 - m)) % 8 = m := by omega
  simpa only [hdiv, hmod] using hbit

section Decode

variable {s : State}

/-- The cap check passes exactly when every entry differs from the cap (42_decoder R204). -/
theorem hasSentinel_eq_false_iff :
    s.hasSentinel = false ↔ ∀ (j : Nat) (_ : j < 80), s.trace[j] ≠ s.params.pCap := by
  simp only [← Bool.not_eq_true, hasSentinel_iff, not_exists, ne_eq]

/-- `Fail` with its whole next state (44_retry R250, R252). -/
theorem fail_eq (s : State) (kind : ResultKind) (diag : TimeoutDiag) :
    s.fail kind diag =
      if s.attempt < s.maxRetries then { s with st := encode .cooldown }
      else
        { s with
          st := encode .idle, resValid := true, resStatus := kind, resTdiag := diag
          resFrame := 0#40, resAttempts := s.attempt } := rfl

/-- DECODE of a trace with a sentinel fails at once, and slices nothing (42_decoder R205). -/
theorem execDecode_of_sentinel (hs : s.hasSentinel = true) :
    execDecode s = .next ((s.drive .nop none).fail .timeout .sampleStall) := if_pos hs

/-- DECODE of a trace with no sentinel that slices to `f` writes `f` and judges its sum
(42_decoder R203, R204). -/
theorem execDecode_of_slice {f : Vector Byte 5} (hs : s.hasSentinel = false)
    (hf : sliceFrame s.trace = f) :
    execDecode s = .next
      (if (f[0].toNat + f[1].toNat + f[2].toNat + f[3].toNat) % 256 = f[4].toNat then
        { s.drive .nop none with frame := f }.complete .ok .none (frameWord f)
      else { s.drive .nop none with frame := f }.fail .checksumMismatch .none) := by
  subst hf
  refine (if_neg (by simp [hs])).trans ?_
  simp only [checksum_eq_iff]
  split_ifs <;> rfl

end Decode

end Sys2Proof.Machine

namespace Sys2Proof.Proofs

open Sys2Proof.Machine

/-- Settles O28: the sum mod 256 fits a byte. -/
theorem checksumIsSumModulo256 : Obligations.ChecksumIsSumModulo256 := checksum_toNat

/-- Settles O24: one entry at the cap is a sentinel, and the cap check comes before the slice. -/
theorem sentinelIsATimeout : Obligations.SentinelIsATimeout := fun s j hj hcap =>
  (execDecode_of_sentinel ((hasSentinel_iff s).mpr ⟨j, hj, hcap⟩)).trans
    (congrArg Host.Outcome.next (fail_eq ..))

/-- Settles O25: the wire bits fix the frame, so `f` is the slice; its sum gives the verdict. -/
theorem decodeSlicesAndChecks : Obligations.DecodeSlicesAndChecks := by
  intro s f hcap hbits
  have hslice : sliceFrame s.trace = f :=
    frame_eq_of_wireBits fun k hk => (sliceFrame_getLsbD s.trace k hk).trans (hbits k hk).symm
  change execDecode s = _
  rw [execDecode_of_slice (hasSentinel_eq_false_iff.mpr hcap) hslice, fail_eq]
  rfl

/-- Settles O26: the five bytes are the frame that the trace spells, and their sum agrees. -/
theorem everyFrameRoundTrips : Obligations.EveryFrameRoundTrips := by
  intro s b0 b1 b2 b3 b4 hsum hcap hbits
  have hspelt : ∀ (k : Nat) (hk : k < 40), #v[b0, b1, b2, b3, b4][k / 8].getLsbD (7 - k % 8) =
      decide (s.trace[2 * k] < s.trace[2 * k + 1]) := fun k hk => by
    rw [← frameWord_getLsbD _ k hk, Bool.eq_iff_iff, decide_eq_true_iff]
    exact (hbits k hk).symm
  have hok := (decodeSlicesAndChecks s _ hcap hspelt).trans
    (congrArg Host.Outcome.next (if_pos hsum.symm))
  have hraw (t : State) (ht : t.resFrame = b0 ++ b1 ++ b2 ++ b3 ++ b4) :
      t.resHumRaw = b0 ++ b1 ∧ t.resTempRaw = b2 ++ b3 := by
    obtain ⟨hhum, htemp, -⟩ := rawWordsAreFrameSlices t #v[b0, b1, b2, b3, b4] ht
    exact ⟨hhum, htemp⟩
  exact ⟨_, hok, fetch_mk_encode .idle .., rfl, rfl, rfl, rfl, rfl, rfl, hraw _ rfl⟩

end Sys2Proof.Proofs

/-!
PROOF. The obligation of 43_converter: the host-side quotient is the nearest binary64 value, ties to even.
-/

namespace Sys2Proof.Machine

open Sys2Proof

/-- `divNearestEven` is off by at most half a unit, and a tie goes to the even number (43_converter R232). -/
theorem divNearestEven_spec {n d : Nat} (hd : 0 < d) :
    2 * d * divNearestEven n d ≤ 2 * n + d ∧ 2 * n ≤ 2 * d * divNearestEven n d + d ∧
    (2 * d * divNearestEven n d = 2 * n + d ∨ 2 * n = 2 * d * divNearestEven n d + d →
      divNearestEven n d % 2 = 0) := by
  have hn := Nat.div_add_mod n d
  have hr := Nat.mod_lt n hd
  rw [Nat.mul_assoc]
  simp only [divNearestEven]
  generalize n / d = q at *
  generalize n % d = r at *
  split_ifs with hbelow habove
  · omega
  · rw [Nat.mul_add]; omega
  · -- exactly half: `q + q % 2` is `q` or `q + 1`, whichever is even
    obtain hq | hq := Nat.mod_two_eq_zero_or_one q <;> simp only [hq, Nat.mul_add] <;> omega

section Tenths

variable {raw : Nat}

/-- The exponent puts `raw / 10` in its binade: `2 ^ (E - 4) ≤ raw / 10 < 2 ^ (E - 3)`. -/
theorem tenthsExponent_binade (hraw : raw ≠ 0) :
    10 * 2 ^ tenthsExponent raw ≤ 16 * raw ∧ 16 * raw < 20 * 2 ^ tenthsExponent raw := by
  have hlo : 2 ^ tenthsExponent raw ≤ 16 * raw / 10 := Nat.log2_self_le (by omega)
  have hhi : 16 * raw / 10 < 2 ^ (tenthsExponent raw + 1) := Nat.lt_log2_self
  omega

/-- The exponent of a 16-bit word is at most 16. -/
theorem tenthsExponent_le (hraw : raw ≠ 0) (hlt : raw < 2 ^ 16) : tenthsExponent raw ≤ 16 :=
  Nat.le_of_lt_succ ((Nat.log2_lt (by omega)).mpr (by omega))

/-- The scaled dividend lies in the binade of the 53-bit significands. -/
theorem tenthsScaled_binade (hraw : raw ≠ 0) (hlt : raw < 2 ^ 16) :
    10 * 2 ^ 52 ≤ raw * 2 ^ (56 - tenthsExponent raw) ∧
    raw * 2 ^ (56 - tenthsExponent raw) ≤ 10 * 2 ^ 53 := by
  obtain ⟨hlo, hhi⟩ := tenthsExponent_binade hraw
  have hpow : 2 ^ tenthsExponent raw * 2 ^ (56 - tenthsExponent raw) = 2 ^ 56 :=
    pow_mul_pow_sub 2 ((tenthsExponent_le hraw hlt).trans (by decide))
  have hlo := Nat.mul_le_mul_right (2 ^ (56 - tenthsExponent raw)) hlo
  have hhi := Nat.mul_le_mul_right (2 ^ (56 - tenthsExponent raw)) hhi.le
  simp only [Nat.mul_assoc, hpow] at hlo hhi
  omega

/-- The rounded significand has 53 bits, or is `2 ^ 53` by a carry. -/
theorem tenthsSignificand_range (hraw : raw ≠ 0) (hlt : raw < 2 ^ 16) :
    2 ^ 52 ≤ tenthsSignificand raw ∧ tenthsSignificand raw ≤ 2 ^ 53 := by
  obtain ⟨hlo, hhi⟩ := tenthsScaled_binade hraw hlt
  obtain ⟨hbelow, habove, -⟩ :=
    divNearestEven_spec (n := raw * 2 ^ (56 - tenthsExponent raw)) (d := 10) (by decide)
  rw [tenthsSignificand]
  omega

end Tenths

/-- The bit pattern of a nonzero word, by exponent and significand (43_converter R232). -/
theorem tenthsBits_of_ne_zero {raw : BitVec 16} (hraw : raw.toNat ≠ 0) :
    tenthsBits raw = BitVec.ofNat 64
      ((tenthsExponent raw.toNat + 1019) * 2 ^ 52 + (tenthsSignificand raw.toNat - 2 ^ 52)) :=
  if_neg hraw

end Sys2Proof.Machine

namespace Sys2Proof.Proofs

open Sys2Proof.Machine

/-- Settles O30: the exponent puts the dividend in the significands' binade, and the one rounding there is
to nearest, ties to even. -/
theorem tenthsRoundToNearestEven : Obligations.TenthsRoundToNearestEven := by
  refine ⟨rfl, fun raw hne => ?_⟩
  have hraw : raw.toNat ≠ 0 := fun h => hne (BitVec.eq_of_toNat_eq h)
  have hexp := tenthsExponent_le hraw raw.isLt
  obtain ⟨hlo, hhi⟩ := tenthsSignificand_range hraw raw.isLt
  have hscale : 1075 - (tenthsExponent raw.toNat + 1019) = 56 - tenthsExponent raw.toNat := by omega
  refine ⟨tenthsExponent raw.toNat + 1019, tenthsSignificand raw.toNat, by omega, by omega, hlo, hhi,
    tenthsBits_of_ne_zero hraw, ?_⟩
  rw [hscale]
  exact divNearestEven_spec (by decide)

end Sys2Proof.Proofs

/-!
PROOF. The obligations of 44_retry: what COOLDOWN does, how a read ends, and a whole read on a line with no
sensor.
-/

namespace Sys2Proof.Machine

open Sys2Proof

/-! ### COOLDOWN, and the end of a read -/

section Retry

variable {s t : State} {us : Nat} {next : Instr} {act : State → State}

/-- `Hold` with nothing pending requests its delay (41_sequencer R161). -/
theorem hold_of_request (hp : s.dlyPend = false) :
    s.hold us next act = { s with out := ⟨.nop, some us⟩, dlyPend := true } :=
  if_neg (ne_true_of_eq_false hp)

/-- `Hold` whose delay is over consumes the answer and moves on (41_sequencer R161). -/
theorem hold_of_done (hp : s.dlyPend = true) (hd : s.inp.dlyDone = true) :
    s.hold us next act = (act { s with out := .quiet, dlyPend := false }).goto next :=
  (if_pos hp).trans (if_pos hd)

/-- `Hold` waits for its delay (41_sequencer R161). -/
theorem hold_of_wait (hp : s.dlyPend = true) (hd : s.inp.dlyDone = false) :
    s.hold us next act = { s with out := .quiet } :=
  (if_pos hp).trans (if_neg (ne_true_of_eq_false hd))

/-- The increment that ends COOLDOWN, with its whole next state, where a retry is left (44_retry R251). -/
theorem nextAttempt_eq (ha : s.attempt < s.maxRetries) (hm : s.maxRetries < 2 ^ s.params.wRetry) :
    s.nextAttempt = { s with attempt := s.attempt + 1 } := by
  rw [State.nextAttempt, State.setAttempt, narrow_attempt_succ hm ha]

/-- An operation outside IDLE enters IDLE only by publishing (44_retry R255). -/
theorem exec_enters_idle (h : exec s.fetch s = .next t) (hs : s.fetch ≠ .idle) (ht : t.fetch = .idle) :
    t.Ended := by
  obtain ⟨-, hbusy⟩ | ⟨hfetch, hvalid, -⟩ := (exec_move h).keeps_or_publishes hs
  · exact absurd ht (hbusy hs)
  · exact ⟨hfetch, hvalid⟩

end Retry

/-! ### One step of a scenario -/

section Play

variable {c : Scenario} {s u : State} {i j : Instr} {k k' : Nat} {d d' : Bool}

/-- A step of a scenario that has an answer for its read is the operation, and then the other agents. -/
theorem play1_of_exec {first : Bool} {answers : List Level} (hp : s.params.WellFormed)
    (ha : s.fetch.isSampling = true → answers ≠ [])
    (he : exec s.fetch { s with inp := c.inputs first s (answers.headD .low) } = .next u) :
    c.play1 first s answers =
      some (advance { s with inp := c.inputs first s (answers.headD .low) } u,
        if s.fetch.isSampling = true then answers.tail else answers) := by
  have hstep := stepWith_of_exec hp rfl he
  unfold Scenario.play1
  cases hr : s.fetch.isSampling with
  | false => simp only [hstep]
  | true =>
    cases answers with
    | nil => exact absurd rfl (ha hr)
    | cons l ls => simp only [hstep]

/-- In a read of scenario `c` the block is about to run `i`, after `k` retries, and `d` says whether a delay is
pending. -/
structure InRead (c : Scenario) (i : Instr) (k : Nat) (d : Bool) (s : State) : Prop where
  fetch : s.fetch = i
  params : s.params = c.params
  pin : s.pin = c.pin
  maxRetries : s.maxRetries = c.retries
  attempt : s.attempt = k
  dlyPend : s.dlyPend = d

/-- An operation outside IDLE goes on with the read (10_state R32, R33). -/
theorem InRead.advance {x : Config.Inputs} (h : InRead c i k d s) (hi : i ≠ .idle)
    (he : exec i { s with inp := x } = .next u) (hfetch : u.fetch = j) (hattempt : u.attempt = k')
    (hpend : u.dlyPend = d') : InRead c j k' d' (advance { s with inp := x } u) := by
  have hm := exec_move he
  obtain ⟨hpin, hmax⟩ := hm.latches_kept hi
  exact ⟨hfetch, hm.params_eq.trans h.params, hpin.trans h.pin, hmax.trans h.maxRetries, hattempt, hpend⟩

/-- An accepted request starts a read with no retry counted (41_sequencer R162). -/
theorem play1_accept (hp : c.params.WellFormed) (hpin : c.pin < 2 ^ c.params.wPin)
    (hretries : c.retries < 2 ^ c.params.wRetry) (hready : c.ready = true) (answers : List Level) :
    ∃ t, c.play1 true (State.resetWith c.params) answers = some (t, answers) ∧
      InRead c .hsCfgOut 0 false t := by
  have hidle := fetch_resetWith c.params
  obtain ⟨hreq, -⟩ | ⟨-, -, e⟩ | ⟨-, hg, -⟩ := execIdle_cases { State.resetWith c.params with
    inp := c.inputs true (State.resetWith c.params) (answers.headD .low) }
  · exact absurd hreq nofun
  · have hplay := play1_of_exec (s := State.resetWith c.params) (first := true) (answers := answers) hp
      (by rw [hidle]; exact nofun) (by rw [hidle]; exact e)
    rw [hidle] at hplay
    exact ⟨_, hplay, decodeCode_encode _, rfl, narrow_of_lt hpin, narrow_of_lt hretries, rfl, rfl⟩
  · exact absurd hready (ne_true_of_eq_false hg)

end Play

/-! ### A read on a line with no sensor -/

section Silent

variable {c : Scenario} {s : State} {P Q R : State → Prop} {i next : Instr} {k n r : Nat}

/-- Under scenario `c` with the line at HIGH, `n` steps that read `r` samples lead from each state of `P` to one
of `Q`. -/
def Silent (c : Scenario) (n r : Nat) (P Q : State → Prop) : Prop :=
  ∀ s rest, P s → ∃ t, c.play n s (List.replicate r .high ++ rest) = some (t, rest) ∧ Q t

/-- Such runs compose, and their steps and samples add. -/
theorem Silent.trans {n' r' : Nat} (h : Silent c n r P Q) (h' : Silent c n' r' Q R) :
    Silent c (n + n') (r + r') P R := by
  intro s rest hs
  obtain ⟨t, ht, hQ⟩ := h s (List.replicate r' .high ++ rest) hs
  obtain ⟨u, hu, hR⟩ := h' t rest hQ
  refine ⟨u, ?_, hR⟩
  rw [← List.replicate_append_replicate, List.append_assoc, play_add ht, hu]

/-- Runs from each stage to the next lead through `b` stages. -/
theorem Silent.iterate {P : Nat → State → Prop} {b : Nat} (h : ∀ m < b, Silent c n r (P m) (P (m + 1))) :
    Silent c (b * n) (b * r) (P 0) (P b) := by
  induction b with
  | zero => exact fun s rest hs => ⟨s, by simp [Scenario.play], hs⟩
  | succ b ih =>
    rw [Nat.succ_mul, Nat.succ_mul]
    exact (ih fun m hm => h m (Nat.lt_succ_of_lt hm)).trans (h b (Nat.lt_succ_self b))

/-- One step of a read on a silent line: what its operation leaves, with a sample at HIGH if it reads one. -/
theorem silent_step (hp : c.params.WellFormed) (hr : i.isSampling.toNat = r)
    (hP : ∀ s, P s → s.fetch = i ∧ s.params = c.params)
    (he : ∀ s l, P s → (i.isSampling = true → l = .high) →
      ∃ u, exec i { s with inp := c.inputs false s l } = .next u ∧
        Q (advance { s with inp := c.inputs false s l } u)) :
    Silent c 1 r P Q := by
  subst hr
  intro s rest hs
  obtain ⟨rfl, hparams⟩ := hP s hs
  generalize hanswers : List.replicate s.fetch.isSampling.toNat Level.high ++ rest = answers
  have hsample (hr : s.fetch.isSampling = true) : answers = .high :: rest := by
    rw [← hanswers, hr]; rfl
  obtain ⟨u, hu, hQ⟩ := he s (answers.headD .low) hs fun hr => by rw [hsample hr]; rfl
  have hplay := play1_of_exec (hparams ▸ hp) (fun hr => by simp [hsample hr]) hu
  refine ⟨_, (play_succ hplay).trans ?_, hQ⟩
  cases hr : s.fetch.isSampling with
  | false => rw [← hanswers, hr]; rfl
  | true => rw [hsample hr]; rfl

/-- One step of a state that only drives a primitive and moves on. -/
theorem silent_primitive {op : GpioOp} (hp : c.params.WellFormed) (hi : i ≠ .idle)
    (hr : i.isSampling.toNat = 0) (he : ∀ v, exec i v = .next ((v.drive op none).goto next)) :
    Silent c 1 0 (InRead c i k false) (InRead c next k false) :=
  silent_step hp hr (fun _ h => ⟨h.fetch, h.params⟩) fun _ _ h _ =>
    ⟨_, he _, h.advance hi (he _) (fetch_goto _ _) h.attempt h.dlyPend⟩

/-- Two steps of a hold state: it requests its delay, is answered at once and moves on (41_sequencer R161,
30_encoding R116). -/
theorem silent_hold {us : Config.Params → Nat} {act : State → State} {k' : Nat} (hp : c.params.WellFormed)
    (hi : i ≠ .idle) (hr : i.isSampling.toNat = 0)
    (he : ∀ v, exec i v = .next (v.hold (us v.params) next act))
    (hact : ∀ v, InRead c i k false v → (act v).attempt = k' ∧ (act v).dlyPend = false) :
    Silent c 2 0 (InRead c i k false) (InRead c next k' false) := by
  have hrequest : Silent c 1 0 (InRead c i k false) (InRead c i k true) :=
    silent_step hp hr (fun _ h => ⟨h.fetch, h.params⟩) fun s l h _ => by
      have hexec := (he { s with inp := c.inputs false s l }).trans
        (congrArg Host.Outcome.next (hold_of_request h.dlyPend))
      exact ⟨_, hexec, h.advance hi hexec h.fetch h.attempt rfl⟩
  have hdone : Silent c 1 0 (InRead c i k true) (InRead c next k' false) :=
    silent_step hp hr (fun _ h => ⟨h.fetch, h.params⟩) fun s l h _ => by
      have hexec := (he { s with inp := c.inputs false s l }).trans
        (congrArg Host.Outcome.next (hold_of_done h.dlyPend h.dlyPend))
      obtain ⟨hattempt, hpend⟩ := hact { s with inp := c.inputs false s l, out := .quiet, dlyPend := false }
        ⟨h.fetch, h.params, h.pin, h.maxRetries, h.attempt, rfl⟩
      exact ⟨_, hexec, h.advance hi hexec (fetch_goto _ _) hattempt hpend⟩
  exact hrequest.trans hdone

/-- In a read of scenario `c`, the seek for the sensor's LOW after `k` retries and `n` misses. -/
structure Seeking (c : Scenario) (k n : Nat) (s : State) : Prop extends InRead c .acklSeek k false s where
  cnt : s.cnt = n

/-- The start signal takes nine steps and reads no sample (41_sequencer R164 to R170). -/
theorem silent_startSignal (hp : c.params.WellFormed) (k : Nat) :
    Silent c 9 0 (InRead c .hsCfgOut k false) (Seeking c k 0) := by
  have hkeep (i : Instr) (v : State) (h : InRead c i k false v) :
      (id v).attempt = k ∧ (id v).dlyPend = false := ⟨h.attempt, h.dlyPend⟩
  have hcfgOut := silent_primitive (i := .hsCfgOut) (k := k) hp nofun rfl fun _ => rfl
  have hdriveLow := silent_primitive (i := .hsDriveLow) (k := k) hp nofun rfl fun _ => rfl
  have hholdLow :=
    silent_hold (i := .hsHoldLow) (us := (·.pTStartLowUs)) hp nofun rfl (fun _ => rfl) (hkeep _)
  have hdriveHigh := silent_primitive (i := .hsDriveHigh) (k := k) hp nofun rfl fun _ => rfl
  have hholdHigh :=
    silent_hold (i := .hsHoldHigh) (us := (·.pTReleaseUs)) hp nofun rfl (fun _ => rfl) (hkeep _)
  have hcfgIn := silent_primitive (i := .hsCfgIn) (k := k) hp nofun rfl fun _ => rfl
  have hpullup : Silent c 1 0 (InRead c .hsPullup k false) (Seeking c k 0) :=
    silent_step hp rfl (fun _ h => ⟨h.fetch, h.params⟩) fun _ _ h _ =>
      ⟨_, exec_hsPullup _, h.advance nofun (exec_hsPullup _) (fetch_mk_encode ..) h.attempt h.dlyPend, rfl⟩
  exact hcfgOut.trans <| hdriveLow.trans <| hholdLow.trans <| hdriveHigh.trans <| hholdHigh.trans <|
    hcfgIn.trans hpullup

/-- COOLDOWN with a retry left counts it and starts the next attempt, in two steps (44_retry R251). -/
theorem silent_cooldown (hp : c.params.WellFormed) (hretries : c.retries < 2 ^ c.params.wRetry)
    (hk : k < c.retries) :
    Silent c 2 0 (InRead c .cooldown k false) (InRead c .hsCfgOut (k + 1) false) := by
  refine silent_hold (us := (·.pTCooldownUs)) hp nofun rfl (fun _ => rfl) fun v h => ⟨?_, h.dlyPend⟩
  rw [State.nextAttempt_attempt, h.params, h.attempt, narrow_of_lt (by omega)]

/-- A miss that leaves some of the budget is counted (40_sampler R141). -/
theorem silent_miss (hp : c.params.WellFormed) (hn : n + 1 < c.params.pAckTimeout) :
    Silent c 1 1 (Seeking c k n) (Seeking c k (n + 1)) :=
  silent_step hp rfl (fun _ h => ⟨h.fetch, h.params⟩) fun s l h hl => by
    have hmore : s.cnt + 1 < s.params.pAckTimeout := by rwa [h.cnt, h.params]
    have hexec : exec .acklSeek { s with inp := c.inputs false s l } = .next _ :=
      congrArg Host.Outcome.next (seekStep_of_miss (by simp [Scenario.inputs, hl rfl]) hmore.ne)
    have hcnt : narrow s.params.wCnt (s.cnt + 1) = n + 1 := by
      rw [h.cnt, h.params, narrow_of_lt (hn.trans hp.ack_lt)]
    exact ⟨_, hexec, h.advance nofun hexec h.fetch h.attempt h.dlyPend, hcnt⟩

/-- The miss that spends the budget fails the attempt (40_sampler R141). -/
theorem Seeking.exec_lastMiss {x : Config.Inputs} (h : Seeking c k n s) (hn : n + 1 = c.params.pAckTimeout)
    (hx : x.gpioLevel = .high) :
    exec .acklSeek { s with inp := x } = .next
      ((({ s with inp := x }.drive .readLevel none).setCnt (s.cnt + 1)).fail .timeout .noAckLow) := by
  have hlast : s.cnt + 1 = s.params.pAckTimeout := by rw [h.cnt, h.params, hn]
  exact congrArg Host.Outcome.next (seekStep_of_lastMiss (l := .low) (by simp [hx]) hlast)

/-- A failed attempt goes to COOLDOWN while a retry is left (44_retry R250). -/
theorem silent_lastMiss_retry (hp : c.params.WellFormed) (hn : n + 1 = c.params.pAckTimeout)
    (hk : k < c.retries) : Silent c 1 1 (Seeking c k n) (InRead c .cooldown k false) :=
  silent_step hp rfl (fun _ h => ⟨h.fetch, h.params⟩) fun s l h hl => by
    have hretry : s.attempt < s.maxRetries := by rwa [h.attempt, h.maxRetries]
    have hexec := (h.exec_lastMiss hn (x := c.inputs false s l) (hl rfl)).trans
      (congrArg Host.Outcome.next (if_pos hretry))
    exact ⟨_, hexec, h.advance nofun hexec (fetch_goto _ _) h.attempt h.dlyPend⟩

/-- The read of scenario `c` ended with a published timeout of the seek for LOW, in its last attempt. -/
def NoSensorReported (c : Scenario) (t : State) : Prop :=
  t.Ended ∧ t.pin = c.pin ∧ t.resStatus = .timeout ∧ t.resTdiag = .noAckLow ∧ t.resFrame = 0#40 ∧
    t.resAttempts = c.retries

/-- The last attempt reports its failure (44_retry R250, R252). -/
theorem silent_lastMiss_report (hp : c.params.WellFormed) (hn : n + 1 = c.params.pAckTimeout) :
    Silent c 1 1 (Seeking c c.retries n) (NoSensorReported c) :=
  silent_step hp rfl (fun _ h => ⟨h.fetch, h.params⟩) fun s l h hl => by
    have hnone : ¬ s.attempt < s.maxRetries := by rw [h.attempt, h.maxRetries]; exact lt_irrefl _
    have hexec := (h.exec_lastMiss hn (x := c.inputs false s l) (hl rfl)).trans
      (congrArg Host.Outcome.next (if_neg hnone))
    exact ⟨_, hexec, ⟨decodeCode_encode _, rfl⟩, h.pin, rfl, rfl, rfl, h.attempt⟩

/-- An attempt with no sensor takes its nine steps and then misses the whole budget, whatever the last miss
leads to (44_retry R254). -/
theorem silent_attempt (hp : c.params.WellFormed)
    (hlast : ∀ n, n + 1 = c.params.pAckTimeout → Silent c 1 1 (Seeking c k n) Q) :
    Silent c (9 + c.params.pAckTimeout) c.params.pAckTimeout (InRead c .hsCfgOut k false) Q := by
  obtain ⟨n, hn⟩ := Nat.exists_eq_add_one.mpr hp.ack_pos
  have hmisses : Silent c (n * 1) (n * 1) (Seeking c k 0) (Seeking c k n) :=
    Silent.iterate fun m hm => silent_miss hp (by omega)
  have hrun := (silent_startSignal hp k).trans (hmisses.trans (hlast n hn.symm))
  rwa [Nat.mul_one, Nat.zero_add, ← hn] at hrun

/-- A retried attempt is an attempt and its cooldown (44_retry R253). -/
theorem silent_retried (hp : c.params.WellFormed) (hretries : c.retries < 2 ^ c.params.wRetry)
    (hk : k < c.retries) :
    Silent c (9 + c.params.pAckTimeout + 2) c.params.pAckTimeout (InRead c .hsCfgOut k false)
      (InRead c .hsCfgOut (k + 1) false) :=
  (silent_attempt hp fun _ hn => silent_lastMiss_retry hp hn hk).trans (silent_cooldown hp hretries hk)

/-- All attempts with no sensor: each but the last is retried, and the last is reported (44_retry R253,
R254). -/
theorem silent_read (hp : c.params.WellFormed) (hretries : c.retries < 2 ^ c.params.wRetry) :
    Silent c ((c.retries + 1) * (9 + c.params.pAckTimeout) + 2 * c.retries)
      ((c.retries + 1) * c.params.pAckTimeout) (InRead c .hsCfgOut 0 false) (NoSensorReported c) := by
  have hretried := Silent.iterate (P := fun k => InRead c .hsCfgOut k false) fun _ =>
    silent_retried hp hretries
  have hrun := hretried.trans (silent_attempt hp fun _ => silent_lastMiss_report hp)
  rw [← Nat.succ_mul] at hrun
  convert hrun using 1
  ring

end Silent

end Sys2Proof.Machine

namespace Sys2Proof.Proofs

open Sys2Proof.Machine

/-- Settles O39: the reset edge aside, an operation that enters IDLE publishes, and the invariant has nothing
published before. -/
theorem readsEndOnlyByPublishing : Obligations.ReadsEndOnlyByPublishing := by
  intro s t hinv hs h ht
  obtain ⟨-, ⟨hr, -⟩ | ⟨-, u, hu, rfl⟩⟩ := step_cases h
  · exact .inl hr
  · exact .inr ⟨hinv.busy_unpublished hs, exec_enters_idle (t := u) hu hs ht⟩

/-- Settles O18: COOLDOWN is a wait that counts the retry on moving on. -/
theorem cooldownCountsTheRetry : Obligations.CooldownCountsTheRetry := by
  intro s ha hm
  refine congrArg Host.Outcome.next ?_
  split_ifs with hp hd
  · exact hold_of_request hp
  · exact (hold_of_done (eq_true_of_ne_false hp) hd).trans
      (congrArg (State.goto · .hsCfgOut) (nextAttempt_eq (s := { s with out := .quiet, dlyPend := false }) ha hm))
  · exact hold_of_wait (eq_true_of_ne_false hp) (eq_false_of_ne_true hd)

/-- Settles O48: the request is accepted, and the line answers HIGH to every read of every attempt. -/
theorem silentLineExhaustsEveryAttempt : Obligations.SilentLineExhaustsEveryAttempt := by
  intro c hp hpin hretries hready hline
  have hsamples : c.samples = List.replicate ((c.retries + 1) * c.params.pAckTimeout) .high ++ [] := by
    simp [Scenario.samples, hline]
  obtain ⟨s, hs, hread⟩ := play1_accept hp hpin hretries hready c.samples
  obtain ⟨t, ht, hreported⟩ := silent_read hp hretries s [] hread
  refine ⟨t, ?_, hreported⟩
  rw [Scenario.run, hs, hsamples]
  exact ht

end Sys2Proof.Proofs

/-!
PROOF. The obligations of 60_exceptions: the DELAY agent's law, the cause of every published result, and what
a failure that is retried keeps.
-/

namespace Sys2Proof.Machine

open Sys2Proof

/-! ### The DELAY agent's answer -/

/-- The answer is gone after the step that consumes it (60_exceptions R294). -/
theorem delayAnswer_of_consumed (done draw : Bool) : delayAnswer true false done draw = false := rfl

/-- With no request pending after the step, an answer that was down stays down (60_exceptions R294). -/
theorem delayAnswer_of_no_request (before draw : Bool) :
    delayAnswer before false false draw = false := by cases before <;> rfl

/-- An answer that the step does not consume stays up (60_exceptions R294). -/
theorem delayAnswer_of_done {before after : Bool} (h : ¬ (before = true ∧ after = false)) (draw : Bool) :
    delayAnswer before after true draw = true :=
  (delayAnswer_true_iff _ _ _ _).mpr ⟨h, .inl rfl⟩

/-- While a request is pending and not answered, the answer is the free draw (30_encoding R113). -/
theorem delayAnswer_of_pending (before draw : Bool) :
    delayAnswer before true false draw = draw := by cases before <;> rfl

/-- At the next edge `dly_done` is the DELAY agent's answer to the step just taken (30_encoding R113). -/
theorem advance_inp_dlyDone (s t : State) :
    (advance s t).inp.dlyDone =
      delayAnswer s.dlyPend t.dlyPend s.inp.dlyDone (Config.freeInputs s.tick).dlyDone := rfl

/-! ### The way into COOLDOWN -/

/-- COOLDOWN is entered from a state that can fail an attempt, with a retry left and the results kept
(44_retry R250, 60_exceptions R280). -/
theorem Move.enters_cooldown {s t : State} {i : Instr} (h : Move s i t) (hs : s.fetch ≠ .cooldown)
    (ht : t.fetch = .cooldown) :
    s.attempt < s.maxRetries ∧ (i = .acklSeek ∨ i = .ackhSeek ∨ i = .decode) ∧ ResultsKept s t := by
  cases h with
  | acklRetry _ _ ha => exact ⟨ha, .inl rfl, rfl, rfl, rfl, rfl, rfl⟩
  | ackhRetry _ _ ha => exact ⟨ha, .inr (.inl rfl), rfl, rfl, rfl, rfl, rfl⟩
  | stallRetry _ ha | mismatchRetry _ _ ha => exact ⟨ha, .inr (.inr rfl), rfl, rfl, rfl, rfl, rfl⟩
  | idleWait | idleNotReady | lowRequest | lowWait | highRequest | highWait | coolRequest | coolWait
  | acklMiss | ackhMiss | acklStay | ackhStay | lowCount | highCount => exact absurd ht hs
  | _ => simp at ht

end Sys2Proof.Machine

namespace Sys2Proof.Proofs

open Sys2Proof.Machine

/-- Settles O13: the reset edge lowers `dly_done`, and after any other step it is the agent's answer, one case
for each clause. -/
theorem delayAgentKeepsItsLaw : Obligations.DelayAgentKeepsItsLaw := by
  intro s t h
  obtain ⟨-, ⟨hr, rfl⟩ | ⟨hr, u, -, rfl⟩⟩ := step_cases h
  · exact ⟨fun _ => rfl, fun hn => absurd hr (ne_true_of_eq_false hn)⟩
  · refine ⟨fun hy => absurd hy (ne_true_of_eq_false hr), fun _ => ?_⟩
    rw [advance_inp_dlyDone, advance_dlyPend]
    refine ⟨fun hd hp => ?_, fun hd hc => ?_, fun hb hp => ?_, fun hd hp => ?_⟩
    · rw [hd, hp, delayAnswer_of_no_request]
    · rw [hd, delayAnswer_of_done hc]
    · rw [hb, hp, delayAnswer_of_consumed]
    · rw [hd, hp, delayAnswer_of_pending]

/-- Settles O34: `res_valid` rises in six branches, each with its own cause; one more branch clears it, and
every other keeps it. -/
theorem publishedResultHasItsCause : Obligations.PublishedResultHasItsCause := by
  intro i s t h hs ht
  cases exec_move h with
  | idleNotReady hr hg => exact .inl ⟨rfl, rfl, rfl, hr, hg⟩
  | acklReport hl hc ha => exact .inr (.inl ⟨rfl, rfl, rfl, hl, hc, ha⟩)
  | ackhReport hl hc ha => exact .inr (.inr (.inl ⟨rfl, rfl, rfl, hl, hc, ha⟩))
  | stallReport hcap ha =>
    exact .inr (.inr (.inr (.inl ⟨rfl, rfl, rfl, (hasSentinel_iff s).mp hcap, ha⟩)))
  | mismatchReport hcap hc ha =>
    exact .inr (.inr (.inr (.inr (.inl ⟨rfl, rfl, rfl, hasSentinel_eq_false_iff.mp hcap, hc, ha⟩))))
  | decodeOk hcap hc =>
    exact .inr (.inr (.inr (.inr (.inr ⟨rfl, rfl, rfl, hasSentinel_eq_false_iff.mp hcap, hc, rfl⟩))))
  | idleAccept => cases ht
  | _ => exact absurd ht (ne_true_of_eq_false hs)

/-- Settles O41: the state that failed is neither IDLE, COOLDOWN nor a sample state, so it keeps the latches,
the attempt counter and the trace. -/
theorem retriedFailureSavesNothing : Obligations.RetriedFailureSavesNothing := by
  intro i s t h hs ht
  have hm := exec_move h
  obtain ⟨ha, hi, hres⟩ := hm.enters_cooldown hs ht
  obtain ⟨hidle, hcool, hlow, hhigh⟩ :
      i ≠ .idle ∧ i ≠ .cooldown ∧ i ≠ .sampleLow ∧ i ≠ .sampleHigh := by
    rcases hi with rfl | rfl | rfl <;> decide
  obtain ⟨hpin, hmax⟩ := hm.latches_kept hidle
  exact ⟨ha, hi, hm.attempt_kept hidle hcool, hpin, hmax, hm.trace_kept hlow hhigh, hres⟩

end Sys2Proof.Proofs

/-!
PROOF. The obligation of 70_reset_and_hazards: what a reset edge leaves and drives.
-/

namespace Sys2Proof.Proofs

open Sys2Proof.Machine

/-- Settles O7: with `rst = 1` the step is the reset edge, and each register it leaves stands in the reset
column. -/
theorem resetEdgeTakesResetColumn : Obligations.ResetEdgeTakesResetColumn := by
  intro s hp hr
  exact ⟨resetEdge s, step_of_rst hp hr,
    resetEdge_st s, resetEdge_pin s, resetEdge_maxRetries s, resetEdge_attempt s, resetEdge_cnt s,
    resetEdge_bi s, resetEdge_dlyPend s, resetEdge_resValid s, resetEdge_resStatus s, resetEdge_resTdiag s,
    resetEdge_resFrame s, resetEdge_resAttempts s, resetEdge_out s⟩

end Sys2Proof.Proofs
